-- ==== Sys2Proof/Word.lean ====
section
/-! DEFINITION. The word types of the KP-4: exchange-memory words, word addresses and capture-clock readings. -/

namespace Sys2Proof

/-- One word of the exchange memory: sixteen bits (00, Addresses and Names). -/
abbrev Word := BitVec 16

/-- A word address on A11 to A0 (10, Table 10-3). -/
abbrev Addr := BitVec 12

/-- A reading of the capture clock: a 24-bit count of 125 ns ticks (R2). -/
abbrev Tick := BitVec 24

end Sys2Proof
end

