-- ==== Sys2Proof/Syntax.lean ====
section
/-! DEFINITION. The commands of the block: one constructor per row of spec/opcode_table.json, with the operands the
row's rule names. -/

namespace Sys2Proof

/-- The commands (log 1 says how they carry time). -/
inductive Instr where
  /-- POWER_ON_RESET (R154). -/
  | powerOnReset
  /-- RESET_LINE (R135): the RESET line is asserted. -/
  | resetLine
  /-- CRANK_EDGE (R3): a crank edge at capture-clock reading `t`. -/
  | crankEdge (t : Tick)
  /-- STALL (R10): the capture clock reaches the stall timer's expiry. -/
  | stall
  /-- CAM_EDGE (R25): a falling edge on CAM`input`, stamped `t`. -/
  | camEdge (input : Fin 4) (t : Tick)
  /-- MATCH_EXPIRY (R18): the capture clock reaches the expiry of match slot `slot`. -/
  | matchExpiry (slot : Fin 24)
  /-- STANDBY_TICK (R137): the 10 ms tick, at capture-clock reading `t`. -/
  | standbyTick (t : Tick)
  /-- PWM_PERIOD_START (R107): a period of OUT`out` starts. -/
  | pwmPeriodStart (out : Fin 4)
  /-- ON_TIME_END (R108): an on-time of OUT`out` ends; `mean` is its mean current in mA. -/
  | onTimeEnd (out : Fin 4) (mean : Int)
  /-- OVER_CURRENT (R114): the comparator of OUT`out` sees the instantaneous current `current`, mA. -/
  | overCurrent (out : Fin 6) (current : Nat)
  /-- PEAK_TIMER_EXPIRY (R109): the peak timer of selector `sel`'s output expires. -/
  | peakTimerExpiry (sel : Fin 2)
  /-- SELECTOR_CURRENT_CHECK (R110): a 1 ms check; `mean` is the mean current over it in mA. -/
  | selectorCurrentCheck (sel : Fin 2) (mean : Int)
  /-- DIP_SAMPLE (R111): a 50 µs current sample in mA. -/
  | dipSample (sel : Fin 2) (sample : Int)
  /-- PROBE_JUDGEMENT (R116): the end of the 20 ms; `carried` is whether the load carried the current. -/
  | probeJudgement (carried : Bool)
  /-- STAGE_TEMPERATURE_SAMPLE (R118): a 1 ms sample in °C. -/
  | stageTemperatureSample (temp : Int)
  /-- DRIVER_STATUS_REFRESH (R121): the 10 ms refresh of the driver status record. -/
  | driverStatusRefresh
  /-- DISCHARGE_CHECK (R120): the 1 ms check; the currents of OUT0 to OUT5 in mA. -/
  | dischargeCheck (currents : Vector Nat 6)
  /-- WAKE_LINE (R156): the WAKE line is asserted. -/
  | wakeLine
  /-- WAKE_TIMER_EXPIRY (R156). -/
  | wakeTimerExpiry
  /-- RECORD_WORD_WRITE (R150): one tick of record writing. -/
  | recordWordWrite
  /-- ACCESS_ABANDONED (R152): chip select is deasserted during a held access. -/
  | accessAbandoned
  /-- EXCHANGE_MEMORY_WRITE (R134): a host write. -/
  | exchangeMemoryWrite (addr : Addr) (value : Word)
  /-- LEARNED_TABLE_WRITE (R154): a host write to word 0xA00 + `off`. -/
  | learnedTableWrite (off : BitVec 8) (value : Word)
  /-- OFFER (R136): the offer word is written with `page` and the non-zero sequence `seq`. -/
  | offer (page : Fin 2) (seq : BitVec 15)
  /-- WITHDRAW_OFFER (R136): the offer word is written with sequence 0 and page bit `page`. -/
  | withdrawOffer (page : Fin 2)
  /-- NOTE_FREE (R147): 0 is written to the state word of note `slot`. -/
  | noteFree (slot : Fin 16)
  /-- SNAPSHOT_REQUEST (R148): 1 is written to snapshot control. -/
  | snapshotRequest
  /-- SNAPSHOT_RELEASE (R148): 0 is written to snapshot control. -/
  | snapshotRelease
  /-- RETAIN_REQUEST (R155): PORTCTL is written with RETAIN 1 and HALT_LEARN `halt`. -/
  | retainRequest (halt : Bool)
  /-- HALT_LEARN_WRITE (R153): PORTCTL is written with RETAIN 0 and HALT_LEARN `halt`. -/
  | haltLearnWrite (halt : Bool)
  /-- PROTECTED_WRITE_CLEAR (R153): PORTSTAT is written with bit 2 set; `others` gives the other bits. -/
  | protectedWriteClear (others : Word)
  /-- ATTN_CLEAR (R151): ATTN is written with `mask`. -/
  | attnClear (mask : Word)
  /-- ATTNEN_WRITE (R151). -/
  | attnenWrite (value : Word)
  /-- REGISTER_WRITE (R152): a write to register word 0xFF8 + `reg`. -/
  | registerWrite (reg : Fin 8) (value : Word)
  /-- RESET_LINE_DEASSERTED (R152). -/
  | resetLineDeasserted
  deriving DecidableEq, Repr

end Sys2Proof
end

