-- ==== Sys2Proof/Decode.lean ====
section
/-! DEFINITION. Decoding. The block has no instruction words: no row of spec/opcode_table.json carries bits, so no
word spells a command (log 34). -/

namespace Sys2Proof

/-- The command a word spells by the table's bits. No row has bits. -/
def decodeTableWord (_nbits _w : Nat) : Option Instr := none

end Sys2Proof
end

