-- ==== Sys2Proof/Config.lean ====
section
/-! DEFINITION. What the part fixes once and for all, and the free values: constants without a body that stand for
what the spec leaves open. -/

namespace Sys2Proof.Config

/-- Family code of the identity words and of IDENT (R135). -/
def familyCode : Nat := 0x4B

/-- Revision code of the identity words and of IDENT (R135). -/
def revisionCode : Nat := 0x01

/-- Ticks of the capture clock in one millisecond: 125 ns each (R2). -/
def ticksPerMs : Nat := 8000

/-- Ticks of the capture clock in one microsecond. -/
def ticksPerUs : Nat := 8

/-- Ticks of the capture clock in one minute (R9). -/
def ticksPerMinute : Nat := 480000000

/-- Ticks of the capture clock in one second (R107). -/
def ticksPerSecond : Nat := 8000000

/-- FREE VALUE (log 12). The quotient of a division whose divisor is 0, by its dividend. The divisors are Pp and
rev_ticks, which are 0 only after two crank edges with one time stamp; the spec states no result there. -/
opaque quotientByZero : Nat → Nat

/-- FREE VALUE (log 13). Wo of an empty effective window (R93), by the count of such windows met so far. -/
opaque emptyWindowOpen : Nat → Nat

/-- FREE VALUE (log 14). Whether a direction code that is neither 0 nor 1 counts as RETARDING in the overlap tests
that R141 makes on the same, already refused, page. -/
opaque strayDirection : Nat → Bool

end Sys2Proof.Config
end

