-- ==== Sys2Proof/Machine/State.lean ====
section
/-! DEFINITION. The state of the KP-4, whole, as plain data, and the machine right after reset. -/

namespace Sys2Proof.Machine

/-! ## Outcomes -/

/-- Faults that stop the machine. The spec gives every command an effect in every state, so there are none: the
fourteen fault kinds of Table 7-2 are state (`Kind`), not stops. -/
inductive Fault where
  deriving DecidableEq, Repr

/-- Refusals. -/
inductive Refusal where
  /-- Raised by an arm of `exec` whose command has no meaning yet; safe. No arm raises it. -/
  | notModelled (mnemonic : String)
  deriving DecidableEq, Repr

/-! ## Angle Unit (chapter 1) -/

/-- Sync states; the order is the code of Table 8-8. -/
inductive Sync where
  | stopped | seeking | crankLocked | cycleLocked
  deriving DecidableEq, Repr

/-- The revolution of the engine cycle; the order is the code of Table 8-8. -/
inductive Rev where
  | a | b | unknown
  deriving DecidableEq, Repr

/-- The mark window [Mo, Mc] in revolution angle (section 1.7.2). -/
structure MarkWindow where
  mo : Nat
  mc : Nat
  deriving DecidableEq, Repr

/-- Kinds of angle match (R17). -/
inductive MatchKind where
  | cycle | revolution
  deriving DecidableEq, Repr

/-- A match slot (R16): a WAITING slot holds its angle and kind, an ARMED slot its expiry as well. -/
inductive MatchSlot where
  | idle
  | waiting (x : Nat) (kind : MatchKind)
  | armed (x : Nat) (kind : MatchKind) (expiry : Tick)
  deriving DecidableEq, Repr

/-- Angle Unit state, Table 1-1 (R2). `stall` is the stall timer: its expiry while it runs. `newWindow` is an adopted
mark window that waits for its tooth 0 (R24). `markInRev` is the model's own (log 16). -/
structure AngleUnit where
  sync         : Sync
  last         : Option Tick
  prev         : Option Nat
  history      : List Nat
  candidate    : Option Nat
  tooth        : Nat
  rev          : Rev
  t0           : Tick
  a0           : Nat
  pp           : Nat
  span         : Nat
  revTicks     : Nat
  speed        : Nat
  markSeen     : Bool
  markedA      : Bool
  missCount    : Nat
  anomalyCount : Nat
  noMarkRaised : Bool
  stall        : Option Tick
  window       : Option MarkWindow
  newWindow    : Option (Option MarkWindow)
  markInRev    : Bool
  deriving DecidableEq, Repr

/-! ## Phase Control Unit (chapters 3 and 4) -/

/-- Phaser states; the order is the code of Table 8-6. -/
inductive PhaserState where
  | parked | unlocking | tracking | holding | returning | faulted
  deriving DecidableEq, Repr

/-- The phaser context, Table 3-1 (R45). -/
structure PhaserCtx where
  state      : PhaserState
  confirmed  : Bool
  enabled    : Bool
  freeze     : Bool
  ta         : Nat
  tr         : Nat
  phase      : Int
  err        : Int
  integ      : Int
  duty       : Nat
  band       : Nat
  hold       : Nat
  factor     : Nat
  settle     : Nat
  edges      : Nat
  run        : Nat
  track      : Nat
  recov      : Nat
  held       : Bool
  stretched  : Bool
  lastUpdate : Nat
  deriving DecidableEq, Repr

/-- The demand stored for one phaser (R48). -/
structure Demand where
  enable : Bool
  target : Nat
  freeze : Bool
  deriving DecidableEq, Repr

/-- An entry of the hold table (R82). -/
structure HoldEntry where
  value : Nat
  count : Nat
  deriving DecidableEq, Repr

/-! ## Cam Edge Unit (chapter 2) -/

/-- The per-window items of Table 2-1; `inside` is "pass partial". -/
structure Pass where
  ref    : Nat
  seen   : Bool
  inside : Bool
  live   : Bool
  deriving DecidableEq, Repr

/-- The per-phaser items of Table 2-1. -/
structure CamPhaser where
  anomaly   : Nat
  misses    : Nat
  strays    : Nat
  confirm   : Nat
  rest      : Nat
  drift     : Nat
  state     : PhaserState
  confirmed : Bool
  deriving DecidableEq, Repr

/-- An entry of the learned reference table (R40). -/
structure RefEntry where
  offset : Int
  count  : Nat
  deriving DecidableEq, Repr

/-! ## Lobe Selector Unit (chapter 5) -/

/-- Selector states; the order is the code of Table 8-7. -/
inductive SelectorState where
  | low | armedUp | shiftingUp | high | armedDown | shiftingDown | faulted
  deriving DecidableEq, Repr

/-- The two lift profiles. -/
inductive Lobe where
  | low | high
  deriving DecidableEq, Repr

/-- Defer reasons; the order is the code of Table 8-7. -/
inductive DeferReason where
  | none | speed | phasers | shutdown | window | lead | late
  deriving DecidableEq, Repr

/-- Last shift results; the order is the code of Table 8-7. -/
inductive ShiftResult where
  | none | confirmed | unconfirmed | released | cancelled | dropped
  deriving DecidableEq, Repr

/-- The selector context, Table 5-1 (R87). -/
structure SelectorCtx where
  state           : SelectorState
  requested       : Lobe
  releaseOwed     : Bool
  owedPlan        : Bool
  retry           : Bool
  faultOnLow      : Bool
  dipSeen         : Bool
  speedAtEnergise : Nat
  deferCount      : Nat
  deferReason     : DeferReason
  wo              : Nat
  wc              : Nat
  lr              : Nat
  lm              : Nat
  action          : Nat
  lastShiftCycle  : Nat
  lastShiftResult : ShiftResult
  deriving DecidableEq, Repr

/-! ## Output Driver Unit (chapter 6) -/

/-- An owner's request (R106): a duty for OUT0 to OUT3; energise with its currents in mA, its dip threshold and its
peak duration in µs (R88), or release, for OUT4 and OUT5. -/
inductive Request where
  | duty (d : Nat)
  | release
  | energise (peak hold dip duration : Nat)
  deriving DecidableEq, Repr

/-- Channel modes; the order is the code of Table 8-8. -/
inductive Mode where
  | off | pwm | peak | hold | probe
  deriving DecidableEq, Repr

/-- Open-load states; the order is the code of Table 8-8. -/
inductive OpenLoad where
  | none | active | passive
  deriving DecidableEq, Repr

/-- Probe results; the order is the code of Table 8-8. -/
inductive ProbeResult where
  | none | pending | ok | opened | aborted
  deriving DecidableEq, Repr

/-- An output channel, Table 6-1 (R105). `onActive`, `onTicks`: an on-time is in progress, and the on-time of the
period (R107, R108). `firstCheck`: the next current check is the first after entry into PEAK (R110). The peak timer
runs exactly while `mode` is PEAK (R109). -/
structure Channel where
  request     : Request
  mode        : Mode
  level       : Nat
  measured    : Nat
  openCount   : Nat
  goodCount   : Nat
  openLoad    : OpenLoad
  tripped     : Bool
  runMax      : Nat
  dipReported : Bool
  probeResult : ProbeResult
  onActive    : Bool
  onTicks     : Nat
  firstCheck  : Bool
  deriving DecidableEq, Repr

/-- The stage items, Table 6-2 (R105). `probe` is the output being probed while the probe state is RUNNING. -/
structure Stage where
  temp      : Int
  warning   : Bool
  shutdown  : Bool
  probe     : Option (Fin 6)
  discharge : Bool
  deriving DecidableEq, Repr

/-! ## Fault Unit (chapter 7) -/

/-- The fourteen fault kinds in the order of Table 7-2. -/
inductive Kind where
  | openLoad | overCurrent | driverWarn | driverShutdown | syncLoss | camMark | phaseImplausible | trackingError
  | lockStuck | returnStuck | referenceDrift | selectorUnconfirmed | conditionsStale | oilLow
  deriving DecidableEq, Repr

/-- A set of fault kinds as the host reads it: bit n is kind n of Table 7-2 (Table 9-4). -/
abbrev KindSet := BitVec 14

/-- A fault unit of Table 7-1. -/
abbrev Unit15 := Fin 15

/-- The reactions of section 7.4. -/
inductive Reaction where
  | proceed | park | force
  deriving DecidableEq, Repr

/-! ## Configuration (Table 8-5, after validation) -/

/-- Sense of phase against edge angle (section 2.3.1). -/
inductive Direction where
  | advancing | retarding
  deriving DecidableEq, Repr

/-- The fields of one phaser. -/
structure PhaserCfg where
  direction   : Direction
  stroke      : Nat
  nominal     : Vector Nat 4
  kp          : Nat
  ki          : Nat
  ilim        : Nat
  dmin        : Nat
  dmax        : Nat
  pnom        : Nat
  holdMin     : Nat
  holdMax     : Nat
  holdDefault : Nat
  unlockDuty  : Nat
  parkDuty    : Nat
  unlockEdges : Nat
  returnEdges : Nat
  slew        : Nat
  trackLimit  : Nat
  trackCount  : Nat
  deriving DecidableEq, Repr

/-- The fields of one selector. -/
structure SelectorCfg where
  iwOpen       : Nat
  iwClose      : Nat
  ewOpen       : Nat
  ewClose      : Nat
  planAngle    : Nat
  tResp        : Nat
  tMove        : Nat
  margin       : Nat
  maxSpeed     : Nat
  settleTol    : Nat
  dipThreshold : Nat
  deferLimit   : Nat
  peakCurrent  : Nat
  holdCurrent  : Nat
  deriving DecidableEq, Repr

/-- A configuration. Codes that select DEFAULT are resolved (Table 7-3); `line` holds the kinds whose report mode is
LINE; `selfClearing` is the latching mode of TRACKING_ERROR. -/
structure Configuration where
  stallMs        : Nat
  window         : Option MarkWindow
  adoptionAngle  : Nat
  staleMs        : Nat
  learnMin       : Nat
  learnMax       : Nat
  enableSpeed    : Nat
  enableHyst     : Nat
  enableTemp     : Int
  unlockPressure : Nat
  holdPressure   : Nat
  pwmFreq        : Nat
  onOpenLoad     : Reaction
  onImplausible  : Reaction
  onTracking     : Reaction
  onDrift        : Reaction
  selfClearing   : Bool
  line           : KindSet
  phasers        : Vector PhaserCfg 4
  selectors      : Vector SelectorCfg 2
  deriving DecidableEq, Repr

/-! ## Exchange Unit (chapters 8 and 9) -/

/-- Verdicts; the order is the code of Table 8-2. -/
inductive Verdict where
  | none | adopted | adoptedClamped | refusedKind | refusedBusy | refusedInvalid | refusedUnconfigured
  deriving DecidableEq, Repr

/-- A pending offer (section 8.2): the held page, its sequence, and whether it is prompt. -/
structure Offer where
  page   : Fin 2
  seq    : BitVec 15
  prompt : Bool
  deriving DecidableEq, Repr

/-- Note kinds, Table 9-3: the fourteen fault kinds and eight reporting kinds. -/
inductive NoteKind where
  | fault (k : Kind)
  | edgeRejected | learnLimit | switchDeferred | selectorDropped | probeRefused | targetClamped | clearKept
  | retainRefused
  deriving DecidableEq, Repr

/-- The detail of a note: words 9 and 10 (Table 9-3). -/
structure Detail where
  w9  : Word
  w10 : Word
  deriving DecidableEq, Repr

/-- A note slot, Table 9-2. -/
structure NoteSlot where
  filled  : Bool
  kind    : NoteKind
  unit    : Unit15
  number  : Word
  first   : Nat
  last    : Nat
  count   : Nat
  detail  : Detail
  deriving DecidableEq, Repr

/-- Which record (R150); its place and length follow from it (`RecordKind.base`, `RecordKind.len`). -/
inductive RecordKind where
  | verdict | inForce
  | extremes (i : Fin 4)
  | summary
  | phaser (i : Fin 4)
  | selector (j : Fin 2)
  | angle | driver
  | note (m : Fin 16)
  | journal (s : Fin 32)
  | snapshot
  | refEntry (n : Fin 16)
  | holdEntry (n : Fin 32)
  deriving DecidableEq, Repr

/-- A record handed over for writing: its words as they stood at the hand-over and how many are written. `released`:
the host has written 0 to snapshot control since this snapshot was captured (log 30). -/
structure Record where
  kind      : RecordKind
  done      : Nat
  words     : List Word
  released  : Bool
  deriving DecidableEq, Repr

/-- The attention causes in the order of R151. -/
inductive Cause where
  | note | fault | verdict | snapshot | cycle | sync | retainRefused | wakeAbort
  deriving DecidableEq, Repr

/-- Exchange Unit state outside the exchange memory. `examineOwed` is the model's own: the firings of the
adoption-angle match since entry into CYCLE_LOCKED whose journal record is not complete, so that their offer is still
to be examined (R145; log 5). -/
structure Exchange where
  offer          : Option Offer
  adoptedSeq     : BitVec 15
  verdict        : Verdict
  verdictDetail  : Word
  lastDropped    : BitVec 15
  oilTemp        : Int
  oilPressure    : Nat
  seqSeen        : Word
  unchangedMs    : Nat
  cycle          : Nat
  firstJournal   : Bool
  examineOwed    : Nat
  notes          : Vector NoteSlot 16
  fillCount      : Word
  notesWithheld  : Bool
  protectedWrite : Bool
  attn           : BitVec 8
  attnen         : BitVec 8
  haltLearn      : Bool
  records        : List Record
  deriving DecidableEq, Repr

/-- A host access held with WAIT: a read of a word, or a write of a value to it (R150, R152). -/
inductive HeldAccess where
  | read (addr : Addr)
  | write (addr : Addr) (value : Word)
  deriving DecidableEq, Repr

/-! ## Power Unit (chapter 10) -/

/-- Power states (section 10.4). -/
inductive PowerState where
  | run | entering | retained
  deriving DecidableEq, Repr

/-- Wake causes; the order is the code of R153. -/
inductive WakeCause where
  | powerOn | resetLine | crank | wakeLine | timer
  deriving DecidableEq, Repr

/-- Power Unit state. `wakeTimer` is the wake timer's delay in 100 ms units while it runs. -/
structure PowerUnit where
  state     : PowerState
  wakeCause : WakeCause
  wakeTimer : Option Nat
  waketime  : Word
  resetLine : Bool
  deriving DecidableEq, Repr

/-! ## The whole -/

/-- The exchange memory: (word address, word) pairs, addresses rising, no word 0 listed; an unlisted word reads 0
(R134, R135; log 21). -/
abbrev Mem := List (Nat × Word)

/-- Every unit's state outside the exchange memory. `fresh` is the model's own (log 13). -/
structure Part where
  clock     : Tick
  angle     : AngleUnit
  slots     : Vector MatchSlot 24
  passes    : Vector Pass 16
  cams      : Vector CamPhaser 4
  refTable  : Vector RefEntry 16
  holdTable : Vector HoldEntry 32
  phasers   : Vector PhaserCtx 4
  demand    : Vector Demand 4
  selectors : Vector SelectorCtx 2
  channels  : Vector Channel 6
  stage     : Stage
  latched   : Vector KindSet 15
  present   : Vector KindSet 15
  config    : Option Configuration
  xu        : Exchange
  power     : PowerUnit
  fresh     : Nat
  deriving DecidableEq, Repr

/-- The machine: the exchange memory, the host access that WAIT holds, the word the host's last read returned (none
while that read is held or abandoned, or before the first; log 70), the units, and the commands that wait. -/
structure State where
  mem      : Mem
  held     : Option HeldAccess
  readData : Option Word
  part     : Part
  pending  : List Instr
  deriving DecidableEq, Repr

/-! ## Reset -/

/-- Angle Unit after any reset: the last column of Table 1-1 (R2). -/
def AngleUnit.reset : AngleUnit where
  sync := .stopped
  last := none
  prev := none
  history := []
  candidate := none
  tooth := 0
  rev := .unknown
  t0 := 0
  a0 := 0
  pp := 0
  span := 150
  revTicks := 0
  speed := 0
  markSeen := false
  markedA := false
  missCount := 0
  anomalyCount := 0
  noMarkRaised := false
  stall := none
  window := none
  newWindow := none
  markInRev := false

/-- A phaser context after any reset: the last column of Table 3-1 (R45). -/
def PhaserCtx.reset : PhaserCtx where
  state := .parked
  confirmed := false
  enabled := false
  freeze := false
  ta := 0
  tr := 0
  phase := 0
  err := 0
  integ := 0
  duty := 0
  band := 0
  hold := 0
  factor := 64
  settle := 0
  edges := 0
  run := 0
  track := 0
  recov := 0
  held := false
  stretched := false
  lastUpdate := 0

/-- A window's items after any reset (Table 2-1). -/
def Pass.reset : Pass := { ref := 0, seen := false, inside := false, live := false }

/-- A phaser's Cam Edge Unit items after any reset (Table 2-1). -/
def CamPhaser.reset : CamPhaser where
  anomaly := 0
  misses := 0
  strays := 0
  confirm := 0
  rest := 0
  drift := 0
  state := .parked
  confirmed := false

/-- A selector context after any reset: the last column of Table 5-1 (R87). -/
def SelectorCtx.reset : SelectorCtx where
  state := .low
  requested := .low
  releaseOwed := false
  owedPlan := false
  retry := false
  faultOnLow := false
  dipSeen := false
  speedAtEnergise := 0
  deferCount := 0
  deferReason := .none
  wo := 0
  wc := 0
  lr := 0
  lm := 0
  action := 0
  lastShiftCycle := 0
  lastShiftResult := .none

/-- A channel after any reset: the last column of Table 6-1 (R105), with the request of its kind of output. -/
def Channel.reset (request : Request) : Channel where
  request := request
  mode := .off
  level := 0
  measured := 0
  openCount := 0
  goodCount := 0
  openLoad := .none
  tripped := false
  runMax := 0
  dipReported := false
  probeResult := .none
  onActive := false
  onTicks := 0
  firstCheck := false

/-- The stage items after any reset (Table 6-2). -/
def Stage.reset : Stage := { temp := 25, warning := false, shutdown := false, probe := none, discharge := false }

/-- A note slot after any reset: FREE with all its words 0 (R146). -/
def NoteSlot.reset : NoteSlot where
  filled := false
  kind := .fault .openLoad
  unit := 0
  number := 0
  first := 0
  last := 0
  count := 0
  detail := { w9 := 0, w10 := 0 }

/-- The Exchange Unit after any reset (R135, R143, R145, R146, R151, R153). The fault summary stands handed over,
because R122 has it written after each reset (log 28). -/
def Exchange.reset : Exchange where
  offer := none
  adoptedSeq := 0
  verdict := .none
  verdictDetail := 0
  lastDropped := 0
  oilTemp := 0
  oilPressure := 0
  seqSeen := 0
  unchangedMs := 0
  cycle := 0
  firstJournal := false
  examineOwed := 0
  notes := Vector.replicate 16 NoteSlot.reset
  fillCount := 0
  notesWithheld := false
  protectedWrite := false
  attn := 0
  attnen := 0
  haltLearn := false
  records := [{ kind := .summary, done := 0, words := List.replicate 30 0, released := false }]

/-- The units after a reset, given what the reset keeps or records: the learned tables, WAKETIME, the wake cause and
the level of the RESET line. -/
def Part.afterReset (refs : Vector RefEntry 16) (holds : Vector HoldEntry 32) (waketime : Word) (cause : WakeCause)
    (line : Bool) : Part where
  clock := 0
  angle := AngleUnit.reset
  slots := Vector.replicate 24 .idle
  passes := Vector.replicate 16 Pass.reset
  cams := Vector.replicate 4 CamPhaser.reset
  refTable := refs
  holdTable := holds
  phasers := Vector.replicate 4 PhaserCtx.reset
  demand := Vector.replicate 4 { enable := false, target := 0, freeze := false }
  selectors := Vector.replicate 2 SelectorCtx.reset
  channels := #v[Channel.reset (.duty 0), Channel.reset (.duty 0), Channel.reset (.duty 0), Channel.reset (.duty 0),
    Channel.reset .release, Channel.reset .release]
  stage := Stage.reset
  latched := Vector.replicate 15 0
  present := Vector.replicate 15 0
  config := none
  xu := Exchange.reset
  power := { state := .run, wakeCause := cause, wakeTimer := none, waketime := waketime, resetLine := line }
  fresh := 0

/-- The learned reference table after the power-on reset (R40). -/
def refDefaults : Vector RefEntry 16 := Vector.replicate 16 { offset := 0, count := 0 }

/-- The hold table after the power-on reset (R82). -/
def holdDefaults : Vector HoldEntry 32 := Vector.replicate 32 { value := 500, count := 0 }

/-- The words outside the retained region after any reset that are not 0 (R135): the identity words, the extremes
records (R85), the pressure factor 64 of each phaser context (R45), the revolution code "unknown" of the angle status
(R2) and the stage temperature 25 (R105). -/
def resetWords : Mem :=
  [(0x000, 0x4B), (0x001, 0x01),
   (0x040, 0x8000), (0x041, 0x7FFF), (0x043, 1000),
   (0x048, 0x8000), (0x049, 0x7FFF), (0x04B, 1000),
   (0x050, 0x8000), (0x051, 0x7FFF), (0x053, 1000),
   (0x058, 0x8000), (0x059, 0x7FFF), (0x05B, 1000),
   (0x30B, 64), (0x32B, 64), (0x34B, 64), (0x36B, 64),
   (0x3C2, 2), (0x3F8, 25)]

/-- The learned tables' words after the power-on reset that are not 0: the 32 hold values (R82). -/
def learnedDefaults : Mem := (List.range 32).map fun n => (0xA40 + 2 * n, 500)

/-- The machine right after the power-on reset (R154), no command waiting. -/
def State.reset : State where
  mem := resetWords ++ learnedDefaults
  held := none
  readData := none
  part := Part.afterReset refDefaults holdDefaults 0 .powerOn false
  pending := []

end Sys2Proof.Machine
end

