-- ==== Sys2Proof/Machine/Arith.lean ====
section
/-! DEFINITION. The arithmetic of the manual: rounding, clamping, capture-clock differences and crank angles, and
reading and writing a fixed row of like items. -/

namespace Sys2Proof.Machine

/-! ## Rows of like items -/

/-- Item `i` of a row. -/
def vget {α : Type} {n : Nat} (v : Vector α n) (i : Fin n) : α := v.get i

/-- The row with item `i` replaced. -/
def vset {α : Type} {n : Nat} (v : Vector α n) (i : Fin n) (x : α) : Vector α n := v.set i.val x i.isLt

/-! ## Rounding (00, Rounding) -/

/-- Round half up of n / d, on quantities that are not negative. A division by 0 is log 12. -/
def roundHalfUp (n d : Nat) : Nat := if d = 0 then Config.quotientByZero n else (2 * n + d) / (2 * d)

/-- Floor of n / d. A division by 0 is log 12. -/
def floorDiv (n d : Nat) : Nat := if d = 0 then Config.quotientByZero n else n / d

/-- Ceil of n / d, for d > 0. -/
def ceilDiv (n d : Nat) : Nat := (n + d - 1) / d

/-- Round half away of n / d, for d > 0: nearest, a tie away from zero. -/
def roundHalfAway (n : Int) (d : Nat) : Int :=
  if 0 ≤ n then ((2 * n.natAbs + d) / (2 * d) : Nat) else -((2 * n.natAbs + d) / (2 * d) : Nat)

/-- Clamped to lo to hi (00, Rounding). -/
def clampInt (lo hi x : Int) : Int := if x < lo then lo else if hi < x then hi else x

/-- Clamped to lo to hi, for quantities that are not negative. -/
def clampNat (lo hi x : Nat) : Nat := if x < lo then lo else if hi < x then hi else x

/-! ## Time -/

/-- Ticks from `t0` to `t`, modulo 2^24 (Table 0-1). -/
def elapsed (t t0 : Tick) : Nat := (t - t0).toNat

/-- The reading `n` ticks after `t`, modulo 2^24. -/
def later (t : Tick) (n : Nat) : Tick := t + BitVec.ofNat 24 n

/-! ## Angles (00, Angles and Wrapping) -/

/-- Forward distance from x to y on a circle of m dd. -/
def forwardIn (m x y : Nat) : Nat := (y + (m - x % m)) % m

/-- Forward distance of two cycle angles. -/
def forward (x y : Nat) : Nat := forwardIn 7200 x y

/-- Wrapped into −3600 to 3599. -/
def wrap (d : Int) : Int := (d + 3600) % 7200 - 3600

/-- (x + d) mod 7200 for a signed d. -/
def angleAdd (x : Nat) (d : Int) : Nat := (((x : Int) + d) % 7200).toNat

/-- `x` lies in the window [open, close] on a circle of m dd; both ends belong to it, and it may wrap. -/
def inWindow (m opn cls x : Nat) : Bool := decide (forwardIn m opn x ≤ forwardIn m opn cls)

/-- Two arcs of a circle of m dd, given by open angle and length, share a point. -/
def arcsMeet (m o1 l1 o2 l2 : Nat) : Bool := decide (forwardIn m o1 o2 ≤ l1 ∨ forwardIn m o2 o1 ≤ l2)

/-! ## Words -/

/-- A signed quantity as a word. -/
def wordOfInt (x : Int) : Word := BitVec.ofInt 16 x

/-- A quantity that is not negative as a word (its low sixteen bits). -/
def wordOfNat (n : Nat) : Word := BitVec.ofNat 16 n

/-- The second word of a quantity of two words, low word first (08, section 8.5). -/
def highWord (n : Nat) : Word := BitVec.ofNat 16 (n / 65536)

/-- Low word of a signed 32-bit quantity. -/
def lowWordInt (x : Int) : Word := (BitVec.ofInt 32 x).extractLsb' 0 16

/-- High word of a signed 32-bit quantity. -/
def highWordInt (x : Int) : Word := (BitVec.ofInt 32 x).extractLsb' 16 16

/-- Flags listed from bit 0 upward (08, section 8.5). -/
def flagsWord (flags : List Bool) : Word := BitVec.ofNat 16 (flags.foldr (fun b n => b.toNat + 2 * n) 0)

/-- Bit n of a word. -/
def bitOf (w : Word) (n : Nat) : Bool := w.getLsbD n

/-! ## Index rows -/

/-- The four phasers in index order. -/
def allPhasers : List (Fin 4) := [0, 1, 2, 3]

/-- The two selectors in index order. -/
def allSelectors : List (Fin 2) := [0, 1]

/-- The six outputs in index order. -/
def allOutputs : List (Fin 6) := [0, 1, 2, 3, 4, 5]

/-- The fifteen fault units in the order of Table 7-1. -/
def allUnits : List Unit15 := [0, 1, 2, 3, 4, 5, 6, 7, 8, 9, 10, 11, 12, 13, 14]

/-- The sixteen windows, note slots or reference entries in index order. -/
def allSixteen : List (Fin 16) := [0, 1, 2, 3, 4, 5, 6, 7, 8, 9, 10, 11, 12, 13, 14, 15]

/-- The 24 match slots in index order. -/
def allSlots : List (Fin 24) :=
  [0, 1, 2, 3, 4, 5, 6, 7, 8, 9, 10, 11, 12, 13, 14, 15, 16, 17, 18, 19, 20, 21, 22, 23]

/-- The bands of the hold table. -/
def allBands : List (Fin 8) := [0, 1, 2, 3, 4, 5, 6, 7]

/-- The output of phaser i (Table 0-2). -/
def phaserOutput (i : Fin 4) : Fin 6 := ⟨i.val, by omega⟩

/-- The output of selector j (Table 0-2). -/
def selectorOutput (j : Fin 2) : Fin 6 := ⟨4 + j.val, by omega⟩

/-- Window k of phaser i: its row index and its match slot 4 × i + k (R29). -/
def windowIndex (i k : Fin 4) : Fin 16 := ⟨4 * i.val + k.val, by omega⟩

/-- Hold-table row of phaser i and band b (Table 10-2). -/
def holdIndex (i : Fin 4) (b : Nat) : Fin 32 := ⟨8 * i.val + b % 8, by omega⟩

/-- The head a phaser belongs to (Table 0-2). -/
def headOf (i : Fin 4) : Fin 2 := ⟨i.val / 2, by omega⟩

/-- The intake phaser of a head. -/
def intakeOf (j : Fin 2) : Fin 4 := ⟨2 * j.val, by omega⟩

/-- The exhaust phaser of a head. -/
def exhaustOf (j : Fin 2) : Fin 4 := ⟨2 * j.val + 1, by omega⟩

/-- Fault unit of a phaser (Table 7-1). -/
def phaserUnit (i : Fin 4) : Unit15 := ⟨i.val, by omega⟩

/-- Fault unit of a selector. -/
def selectorUnit (j : Fin 2) : Unit15 := ⟨4 + j.val, by omega⟩

/-- Fault unit of an output. -/
def outputUnit (n : Fin 6) : Unit15 := ⟨6 + n.val, by omega⟩

/-- Fault unit Sync. -/
def syncUnit : Unit15 := 12

/-- Fault unit Driver stage. -/
def stageUnit : Unit15 := 13

/-- Fault unit Conditions. -/
def conditionsUnit : Unit15 := 14

end Sys2Proof.Machine
end

