-- ==== Sys2Proof/Machine/Operands.lean ====
section
/-! DEFINITION. The codes and the layouts by which the host sees the state: one code per name, one word list per
record (Tables 8-6, 8-7, 8-8, 9-1, 9-2, 9-4, 10-2). -/

namespace Sys2Proof.Machine

/-! ## Codes -/

/-- Table 8-8. -/
def Sync.code : Sync → Nat
  | .stopped => 0 | .seeking => 1 | .crankLocked => 2 | .cycleLocked => 3

/-- Table 8-8. -/
def Rev.code : Rev → Nat
  | .a => 0 | .b => 1 | .unknown => 2

/-- Table 8-6. -/
def PhaserState.code : PhaserState → Nat
  | .parked => 0 | .unlocking => 1 | .tracking => 2 | .holding => 3 | .returning => 4 | .faulted => 5

/-- Table 8-7. -/
def SelectorState.code : SelectorState → Nat
  | .low => 0 | .armedUp => 1 | .shiftingUp => 2 | .high => 3 | .armedDown => 4 | .shiftingDown => 5 | .faulted => 6

/-- Table 8-7. -/
def Lobe.code : Lobe → Nat
  | .low => 0 | .high => 1

/-- Table 8-7. -/
def DeferReason.code : DeferReason → Nat
  | .none => 0 | .speed => 1 | .phasers => 2 | .shutdown => 3 | .window => 4 | .lead => 5 | .late => 6

/-- Table 8-7. -/
def ShiftResult.code : ShiftResult → Nat
  | .none => 0 | .confirmed => 1 | .unconfirmed => 2 | .released => 3 | .cancelled => 4 | .dropped => 5

/-- Table 8-8. -/
def Mode.code : Mode → Nat
  | .off => 0 | .pwm => 1 | .peak => 2 | .hold => 3 | .probe => 4

/-- Table 8-8. -/
def OpenLoad.code : OpenLoad → Nat
  | .none => 0 | .active => 1 | .passive => 2

/-- Table 8-8. -/
def ProbeResult.code : ProbeResult → Nat
  | .none => 0 | .pending => 1 | .ok => 2 | .opened => 3 | .aborted => 4

/-- The place of a kind in Table 7-2. -/
def Kind.code : Kind → Nat
  | .openLoad => 0 | .overCurrent => 1 | .driverWarn => 2 | .driverShutdown => 3 | .syncLoss => 4 | .camMark => 5
  | .phaseImplausible => 6 | .trackingError => 7 | .lockStuck => 8 | .returnStuck => 9 | .referenceDrift => 10
  | .selectorUnconfirmed => 11 | .conditionsStale => 12 | .oilLow => 13

/-- The fourteen kinds in the order of Table 7-2. -/
def allKinds : List Kind :=
  [.openLoad, .overCurrent, .driverWarn, .driverShutdown, .syncLoss, .camMark, .phaseImplausible, .trackingError,
   .lockStuck, .returnStuck, .referenceDrift, .selectorUnconfirmed, .conditionsStale, .oilLow]

/-- Table 9-3. -/
def NoteKind.code : NoteKind → Nat
  | .fault k => k.code
  | .edgeRejected => 14 | .learnLimit => 15 | .switchDeferred => 16 | .selectorDropped => 17 | .probeRefused => 18
  | .targetClamped => 19 | .clearKept => 20 | .retainRefused => 21

/-- Table 8-2. -/
def Verdict.code : Verdict → Nat
  | .none => 0 | .adopted => 1 | .adoptedClamped => 2 | .refusedKind => 3 | .refusedBusy => 4 | .refusedInvalid => 5
  | .refusedUnconfigured => 6

/-- R153. -/
def WakeCause.code : WakeCause → Nat
  | .powerOn => 0 | .resetLine => 1 | .crank => 2 | .wakeLine => 3 | .timer => 4

/-- The bit of an attention cause (R151). -/
def Cause.bit : Cause → Nat
  | .note => 0 | .fault => 1 | .verdict => 2 | .snapshot => 3 | .cycle => 4 | .sync => 5 | .retainRefused => 6
  | .wakeAbort => 7

/-! ## Sets of kinds -/

/-- The set of one kind. -/
def Kind.bitSet (k : Kind) : KindSet := BitVec.twoPow 14 k.code

/-- Membership. -/
def KindSet.has (s : KindSet) (k : Kind) : Bool := s.getLsbD k.code

/-- The set with a kind added. -/
def KindSet.add (s : KindSet) (k : Kind) : KindSet := s ||| k.bitSet

/-- The set with a kind removed. -/
def KindSet.drop (s : KindSet) (k : Kind) : KindSet := s &&& ~~~k.bitSet

/-! ## Places and lengths of the records (R150; Tables 8-1, 8-2, 9-4, 9-5, 10-2) -/

/-- Word address of a record's first word. -/
def RecordKind.base : RecordKind → Nat
  | .verdict => 0x003
  | .inForce => 0x010
  | .extremes i => 0x040 + 8 * i.val
  | .summary => 0x060
  | .phaser i => 0x300 + 32 * i.val
  | .selector j => 0x380 + 32 * j.val
  | .angle => 0x3C0
  | .driver => 0x3E0
  | .note m => 0x400 + 16 * m.val
  | .journal s => 0x500 + 32 * s.val
  | .snapshot => 0x900
  | .refEntry n => 0xA00 + 2 * n.val
  | .holdEntry n => 0xA40 + 2 * n.val

/-- A record's length in words. The driver status record is 0x3E0 to 0x3FF, as R121 says; the angle status record is
the eight words Table 8-8 gives it (DESIGN CHOICE, log 53). -/
def RecordKind.len : RecordKind → Nat
  | .verdict => 4
  | .inForce => 3
  | .extremes _ => 8
  | .summary => 30
  | .phaser _ | .selector _ | .driver | .journal _ => 32
  | .angle => 8
  | .note _ => 16
  | .snapshot => 203
  | .refEntry _ | .holdEntry _ => 2

/-- A word address lies in a record. -/
def RecordKind.covers (k : RecordKind) (a : Nat) : Bool := decide (k.base ≤ a ∧ a < k.base + k.len)

/-! ## Layouts -/

/-- A list of words filled up with 0 to a record's length. -/
def padTo (n : Nat) (ws : List Word) : List Word := ws ++ List.replicate (n - ws.length) 0

/-- Table 8-6. The bits of the flags word without a name are 0 (DESIGN CHOICE, log 72). -/
def PhaserCtx.words (c : PhaserCtx) : List Word :=
  padTo 32
    [wordOfNat c.state.code, flagsWord [c.confirmed, c.enabled, c.freeze, c.held, c.stretched],
     wordOfNat c.ta, wordOfNat c.tr, wordOfInt c.phase, wordOfInt c.err, lowWordInt c.integ, highWordInt c.integ,
     wordOfNat c.duty, wordOfNat c.band, wordOfNat c.hold, wordOfNat c.factor,
     wordOfNat c.settle, wordOfNat c.edges, wordOfNat c.run, wordOfNat c.track, wordOfNat c.recov,
     wordOfNat c.lastUpdate, highWord c.lastUpdate]

/-- Table 8-7. Lr and Lm above 65535 show their low sixteen bits (log 24). The bits of the flags word without a name
are 0 (DESIGN CHOICE, log 72). -/
def SelectorCtx.words (c : SelectorCtx) : List Word :=
  padTo 32
    [wordOfNat c.state.code, wordOfNat c.requested.code,
     flagsWord [c.releaseOwed, c.retry, c.faultOnLow, c.dipSeen, c.owedPlan],
     wordOfNat c.deferCount, wordOfNat c.deferReason.code,
     wordOfNat c.wo, wordOfNat c.wc, wordOfNat c.lr, wordOfNat c.lm, wordOfNat c.action,
     wordOfNat c.lastShiftCycle, highWord c.lastShiftCycle, wordOfNat c.lastShiftResult.code,
     wordOfNat c.speedAtEnergise]

/-- Angle status, Table 8-8. -/
def Part.angleWords (p : Part) : List Word :=
  [wordOfNat p.angle.sync.code, wordOfNat p.angle.tooth, wordOfNat p.angle.rev.code, wordOfNat p.angle.speed,
   wordOfNat p.angle.revTicks, highWord p.angle.revTicks, wordOfNat p.xu.cycle, highWord p.xu.cycle]

/-- The status word of an output, Table 8-8. Its bits without a name are 0 (DESIGN CHOICE, log 72). -/
def Channel.statusWord (c : Channel) : Word :=
  wordOfNat (c.openLoad.code + 4 * c.tripped.toNat + 16 * c.probeResult.code)

/-- The four words of an output, Table 8-8: the measured current reads 0 for a channel in OFF (R108, R121). -/
def Channel.words (c : Channel) : List Word :=
  [wordOfNat c.mode.code, wordOfNat c.level, wordOfNat (if c.mode = .off then 0 else c.measured), c.statusWord]

/-- Driver status, Table 8-8. The bits of its words without a name, and the output being probed while the probe is
IDLE, are 0 (DESIGN CHOICE, log 72). -/
def Part.driverWords (p : Part) : List Word :=
  padTo 32
    (allOutputs.flatMap (fun n => (vget p.channels n).words) ++
     [wordOfInt p.stage.temp, flagsWord [p.stage.warning, p.stage.shutdown, p.stage.discharge],
      match p.stage.probe with
      | none => 0
      | some n => wordOfNat (1 + 256 * n.val)])

/-- The fault summary, Table 9-4: latched and present set of each unit. Bits 14 and 15 are 0 (DESIGN CHOICE, log
72). -/
def Part.summaryWords (p : Part) : List Word :=
  allUnits.flatMap fun u => [(vget p.latched u).setWidth 16, (vget p.present u).setWidth 16]

/-- A note slot, Table 9-2. -/
def NoteSlot.words (n : NoteSlot) : List Word :=
  padTo 16
    [wordOfNat n.filled.toNat, wordOfNat n.kind.code, wordOfNat n.unit.val, n.number,
     wordOfNat n.first, highWord n.first, wordOfNat n.last, highWord n.last,
     wordOfNat n.count, n.detail.w9, n.detail.w10]

/-- The verdict record, words 0x003 to 0x006 of Table 8-2. -/
def Exchange.verdictWords (x : Exchange) : List Word :=
  [x.adoptedSeq.setWidth 16, wordOfNat x.verdict.code, x.verdictDetail, x.lastDropped.setWidth 16]

/-- The in-force record, words 0x010 to 0x012 of Table 8-2. -/
def Exchange.inForceWords (x : Exchange) : List Word :=
  [wordOfInt x.oilTemp, wordOfNat x.oilPressure, x.seqSeen]

/-- Reference entry, Table 10-2. -/
def RefEntry.words (e : RefEntry) : List Word := [wordOfInt e.offset, wordOfNat e.count]

/-- Hold entry, Table 10-2. -/
def HoldEntry.words (e : HoldEntry) : List Word := [wordOfNat e.value, wordOfNat e.count]

/-- The six bits of a phaser unit's latched set in journal words 26 and 27 (Table 9-1). -/
def journalPhaserBits (s : KindSet) : List Bool :=
  [s.has .phaseImplausible, s.has .trackingError, s.has .lockStuck, s.has .returnStuck, s.has .referenceDrift,
   s.has .oilLow, false, false]

/-- The journal record, Table 9-1. The bits of its words without a name are 0 (DESIGN CHOICE, log 72). -/
def Part.journalWords (p : Part) : List Word :=
  let phaser (i : Fin 4) : List Word :=
    let c := vget p.phasers i
    [wordOfNat c.state.code, wordOfInt c.phase, wordOfNat c.tr, wordOfNat c.duty]
  let latched (u : Unit15) : KindSet := vget p.latched u
  padTo 32
    ([wordOfNat p.xu.cycle, highWord p.xu.cycle, wordOfNat p.angle.speed, wordOfNat p.angle.sync.code,
      flagsWord [p.xu.firstJournal, (vget p.present conditionsUnit).has .conditionsStale],
      wordOfInt p.xu.oilTemp, wordOfNat p.xu.oilPressure, p.xu.adoptedSeq.setWidth 16] ++
     allPhasers.flatMap phaser ++
     [wordOfNat (vget p.selectors 0).state.code, wordOfNat (vget p.selectors 1).state.code,
      flagsWord (journalPhaserBits (latched 0) ++ journalPhaserBits (latched 1)),
      flagsWord (journalPhaserBits (latched 2) ++ journalPhaserBits (latched 3)),
      flagsWord (allOutputs.flatMap (fun n =>
          [(latched (outputUnit n)).has .openLoad, (latched (outputUnit n)).has .overCurrent]) ++
        [(latched 4).has .selectorUnconfirmed, (latched 5).has .selectorUnconfirmed]),
      flagsWord [(latched syncUnit).has .syncLoss, (latched syncUnit).has .camMark,
        (latched stageUnit).has .driverWarn, (latched stageUnit).has .driverShutdown,
        (latched conditionsUnit).has .conditionsStale]])

/-- The snapshot area, Table 9-5; `event` is 0 at a tooth and 1 at a standby tick. -/
def Part.snapshotWords (p : Part) (event : Nat) : List Word :=
  allPhasers.flatMap (fun i => (vget p.phasers i).words) ++
  allSelectors.flatMap (fun j => (vget p.selectors j).words) ++
  p.angleWords ++ [wordOfNat event, wordOfNat p.clock.toNat, highWord p.clock.toNat]

/-! ## Details of notes (Table 9-3) -/

/-- A detail of one figure: word 9, signed where the quantity is; word 10 is 0. -/
def detailOf (x : Int) : Detail := { w9 := wordOfInt x, w10 := 0 }

/-- A detail of two figures. -/
def detailOf2 (x y : Int) : Detail := { w9 := wordOfInt x, w10 := wordOfInt y }

end Sys2Proof.Machine
end

