-- ==== Sys2Proof/Machine/Ops.lean ====
section
/-! DEFINITION. The shared operations: the exchange memory, handing over records, notes and attention causes, the
angle clock and the match table. -/

namespace Sys2Proof.Machine

/-! ## Exchange memory -/

/-- The word at an address; an unlisted word reads 0 (R134, R135). -/
def Mem.read : Mem → Nat → Word
  | [], _ => 0
  | (b, w) :: m, a => if a = b then w else Mem.read m a

/-- Store a word, keeping the canonical form: storing 0 removes the entry. -/
def Mem.write : Mem → Nat → Word → Mem
  | [], a, v => if v = 0 then [] else [(a, v)]
  | (b, w) :: m, a, v =>
    if a < b then (if v = 0 then (b, w) :: m else (a, v) :: (b, w) :: m)
    else if a = b then (if v = 0 then m else (a, v) :: m)
    else (b, w) :: Mem.write m a v

/-- Store a run of words from an address on. -/
def Mem.writeRun : Mem → Nat → List Word → Mem
  | m, _, [] => m
  | m, a, w :: ws => Mem.writeRun (Mem.write m a w) (a + 1) ws

/-- Canonical from `lo` on: addresses rise strictly and no entry is 0. -/
def Mem.wfFrom : Nat → Mem → Bool
  | _, [] => true
  | lo, (b, w) :: m => decide (lo ≤ b) && decide (w ≠ 0) && Mem.wfFrom (b + 1) m

/-- The canonical form of the exchange memory. -/
def Mem.wf (m : Mem) : Bool := Mem.wfFrom 0 m

/-! ## Records (R150) -/

/-- Hand a record over: it joins the end of the queue with its words as they stand. -/
def Part.handOver (kind : RecordKind) (words : List Word) (p : Part) : Part :=
  { p with xu.records := p.xu.records ++ [{ kind := kind, done := 0, words := words, released := false }] }

/-- A snapshot has been captured and its record is not complete (R149). -/
def Part.snapshotUnderWay (p : Part) : Bool := p.xu.records.any fun r => decide (r.kind = .snapshot)

/-- The word that a waiting record will store at an address, the newest such record's. -/
def pendingWord (rs : List Record) (a : Nat) : Option Word :=
  rs.foldl (fun found r =>
    if r.kind.covers a && decide (r.kind.base + r.done ≤ a) then some (r.words.getD (a - r.kind.base) 0) else found)
    none

/-- The word the Exchange Unit finds at an address once the records handed over are written (log 6). -/
def Part.seen (m : Mem) (p : Part) (a : Nat) : Word := (pendingWord p.xu.records a).getD (m.read a)

/-- A record that waits takes a host write to one of its words (log 6). -/
def Record.amend (a : Nat) (v : Word) (r : Record) : Record :=
  if r.kind.covers a then { r with words := r.words.set (a - r.kind.base) v } else r

/-- The context record of phaser i (R46). -/
def Part.writePhaser (i : Fin 4) (p : Part) : Part := p.handOver (.phaser i) (vget p.phasers i).words

/-- The context record of selector j (R87). -/
def Part.writeSelector (j : Fin 2) (p : Part) : Part := p.handOver (.selector j) (vget p.selectors j).words

/-- The angle status record (R21). -/
def Part.writeAngle (p : Part) : Part := p.handOver .angle p.angleWords

/-- The driver status record (R121). -/
def Part.writeDriver (p : Part) : Part := p.handOver .driver p.driverWords

/-- The fault summary record (R122). -/
def Part.writeSummary (p : Part) : Part := p.handOver .summary p.summaryWords

/-- The verdict record (R138). -/
def Part.writeVerdict (p : Part) : Part := p.handOver .verdict p.xu.verdictWords

/-- The in-force record (R143). -/
def Part.writeInForce (p : Part) : Part := p.handOver .inForce p.xu.inForceWords

/-- The record of a reference entry (R42, R150). -/
def Part.writeRef (n : Fin 16) (p : Part) : Part := p.handOver (.refEntry n) (vget p.refTable n).words

/-- The record of a hold entry (R78, R83, R150). -/
def Part.writeHold (n : Fin 32) (p : Part) : Part := p.handOver (.holdEntry n) (vget p.holdTable n).words

/-! ## Attention causes and notes -/

/-- Set an attention cause (R151). -/
def Part.setCause (c : Cause) (p : Part) : Part :=
  { p with xu.attn := p.xu.attn ||| BitVec.twoPow 8 c.bit }

/-- The FILLED slot that holds a kind on a unit (R146). -/
def findNote (notes : Vector NoteSlot 16) (k : NoteKind) (u : Unit15) : Option (Fin 16) :=
  allSixteen.find? fun m => (vget notes m).filled && decide ((vget notes m).kind = k ∧ (vget notes m).unit = u)

/-- The FREE slot with the lowest index (R146). -/
def findFree (notes : Vector NoteSlot 16) : Option (Fin 16) := allSixteen.find? fun m => !(vget notes m).filled

/-- Store a note slot and hand its record over; NOTE is set when the record is complete (R146, log 5). -/
def Part.putNote (m : Fin 16) (n : NoteSlot) (p : Part) : Part :=
  let p := { p with xu.notes := vset p.xu.notes m n }
  p.handOver (.note m) n.words

/-- A block hands over a note: it merges, fills the lowest FREE slot, or is withheld (R146). -/
def Part.note (k : NoteKind) (u : Unit15) (d : Detail) (p : Part) : Part :=
  match findNote p.xu.notes k u with
  | some m =>
    let n := vget p.xu.notes m
    p.putNote m { n with last := p.xu.cycle, count := min (n.count + 1) 255, detail := d }
  | none =>
    match findFree p.xu.notes with
    | some m =>
      let number := p.xu.fillCount + 1
      let p := { p with xu.fillCount := number }
      p.putNote m { filled := true, kind := k, unit := u, number := number, first := p.xu.cycle,
                    last := p.xu.cycle, count := 1, detail := d }
    | none => { p with xu.notesWithheld := true }

/-! ## Angle clock (R15) -/

/-- How far the angle clock stands past the last tooth at reading `t` (R15). -/
def AngleUnit.clockOffset (g : AngleUnit) (t : Tick) : Nat := min (floorDiv (elapsed t g.t0 * 150) g.pp) (g.span - 1)

/-- Where an edge at `t` is placed past the last tooth (R11, R27): rounded, before the limit. -/
def AngleUnit.edgeOffset (g : AngleUnit) (t : Tick) : Nat := roundHalfUp (elapsed t g.t0 * 150) g.pp

/-- Locked: CRANK_LOCKED or CYCLE_LOCKED. -/
def AngleUnit.locked (g : AngleUnit) : Bool := decide (g.sync = .crankLocked ∨ g.sync = .cycleLocked)

/-! ## Match table (R16, R17, R20) -/

/-- Circle of a match kind. -/
def MatchKind.circle : MatchKind → Nat
  | .cycle => 7200
  | .revolution => 3600

/-- The kind of match the sync state serves (R17, R18). -/
def Sync.serves : Sync → MatchKind → Bool
  | .cycleLocked, .cycle => true
  | .crankLocked, .revolution => true
  | _, _ => false

/-- Where a taken request is placed (R17): ARMED when the angle lies ahead in the current interval, else WAITING. -/
def AngleUnit.place (g : AngleUnit) (now : Tick) (x : Nat) (kind : MatchKind) : MatchSlot :=
  let d := forwardIn kind.circle g.a0 x
  if g.clockOffset now < d ∧ d ≤ g.span - 1 then .armed x kind (later g.t0 (ceilDiv (d * g.pp) 150))
  else .waiting x kind

/-- Ask for a match (R17). A revolution request is slot 23's alone; in any other sync state the request is dropped. -/
def Part.requestMatch (k : Fin 24) (x : Nat) (kind : MatchKind) (p : Part) : Part :=
  if p.angle.sync.serves kind && (decide (kind = .cycle) || decide (k = 23)) then
    { p with slots := vset p.slots k (p.angle.place p.clock x kind) }
  else p

/-- Cancel a slot (R17). -/
def Part.cancelMatch (k : Fin 24) (p : Part) : Part := { p with slots := vset p.slots k .idle }

/-- The kind of a slot that holds a match. -/
def MatchSlot.kind? : MatchSlot → Option MatchKind
  | .idle => none
  | .waiting _ kind => some kind
  | .armed _ kind _ => some kind

/-- Cancel every slot that holds a match of a kind (R20). -/
def Part.cancelKind (kind : MatchKind) (p : Part) : Part :=
  allSlots.foldl (fun p k => if (vget p.slots k).kind? = some kind then p.cancelMatch k else p) p

end Sys2Proof.Machine
end

