-- ==== Sys2Proof/Machine/Flags.lean ====
section
/-! DEFINITION. The settings in force and the conditions, lines and registers that are computed from the state. -/

namespace Sys2Proof.Machine

/-! ## Settings in force -/

/-- The report modes of Table 7-3: the kinds that report on LINE. -/
def defaultLine : KindSet :=
  [Kind.openLoad, .overCurrent, .driverShutdown, .syncLoss, .camMark, .phaseImplausible, .lockStuck, .returnStuck,
   .selectorUnconfirmed].foldl KindSet.add 0

/-- What holds while no configuration is active: stall time 300 ms and no mark window (section 1.2), 250 Hz (R105),
500 ms (R144), Table 7-3 (R126). The other fields have no use without a configuration (log 23). -/
def Configuration.unconfigured : Configuration where
  stallMs := 300
  window := none
  adoptionAngle := 0
  staleMs := 500
  learnMin := 0
  learnMax := 0
  enableSpeed := 0
  enableHyst := 0
  enableTemp := 0
  unlockPressure := 0
  holdPressure := 0
  pwmFreq := 250
  onOpenLoad := .park
  onImplausible := .force
  onTracking := .proceed
  onDrift := .proceed
  selfClearing := true
  line := defaultLine
  phasers := Vector.replicate 4
    { direction := .advancing, stroke := 0, nominal := Vector.replicate 4 0, kp := 0, ki := 0, ilim := 0, dmin := 0,
      dmax := 0, pnom := 0, holdMin := 0, holdMax := 1000, holdDefault := 0, unlockDuty := 0, parkDuty := 0,
      unlockEdges := 0, returnEdges := 0, slew := 0, trackLimit := 0, trackCount := 0 }
  selectors := Vector.replicate 2
    { iwOpen := 0, iwClose := 0, ewOpen := 0, ewClose := 0, planAngle := 0, tResp := 0, tMove := 0, margin := 0,
      maxSpeed := 0, settleTol := 0, dipThreshold := 0, deferLimit := 0, peakCurrent := 0, holdCurrent := 0 }

/-- The settings in force. -/
def Part.cfg (p : Part) : Configuration := p.config.getD Configuration.unconfigured

/-- The settings of phaser i. -/
def Part.phaserCfg (p : Part) (i : Fin 4) : PhaserCfg := vget p.cfg.phasers i

/-- The settings of selector j. -/
def Part.selectorCfg (p : Part) (j : Fin 2) : SelectorCfg := vget p.cfg.selectors j

/-- The stall time in ticks (R10). -/
def Part.stallTicks (p : Part) : Nat := p.cfg.stallMs * Config.ticksPerMs

/-! ## Conditions of the whole part -/

/-- A kind is present on a unit. -/
def Part.isPresent (p : Part) (k : Kind) (u : Unit15) : Bool := (vget p.present u).has k

/-- A kind is latched on a unit. -/
def Part.isLatched (p : Part) (k : Kind) (u : Unit15) : Bool := (vget p.latched u).has k

/-- CONDITIONS_STALE is present (R144). -/
def Part.stale (p : Part) : Bool := p.isPresent .conditionsStale conditionsUnit

/-- STANDBY (R67): every phaser PARKED or FAULTED and every selector LOW or FAULTED. -/
def Part.standby (p : Part) : Bool :=
  allPhasers.all (fun i => decide ((vget p.phasers i).state = .parked ∨ (vget p.phasers i).state = .faulted)) &&
  allSelectors.all (fun j => decide ((vget p.selectors j).state = .low ∨ (vget p.selectors j).state = .faulted))

/-- The host port is open (R152). -/
def Part.portOpen (p : Part) : Bool := decide (p.power.state = .run) && !p.power.resetLine

/-- The part is at work: not held in reset by the RESET line (log 3) and not RETAINED (log 4). -/
def Part.awake (p : Part) : Bool := decide (p.power.state ≠ .retained) && !p.power.resetLine

/-- The held page (section 8.2). -/
def Part.heldPage (p : Part) : Option (Fin 2) := p.xu.offer.map Offer.page

/-! ## Reactions and latching modes (R126, R127, R123) -/

/-- The reaction of a kind under the settings in force. -/
def Configuration.reaction (c : Configuration) : Kind → Option Reaction
  | .overCurrent | .lockStuck | .returnStuck => some .force
  | .oilLow => some .park
  | .openLoad => some c.onOpenLoad
  | .phaseImplausible => some c.onImplausible
  | .trackingError => some c.onTracking
  | .referenceDrift => some c.onDrift
  | .selectorUnconfirmed | .syncLoss | .camMark | .driverWarn | .driverShutdown | .conditionsStale => none

/-- A kind is self-clearing under the settings in force (R123). -/
def Configuration.clearsItself (c : Configuration) : Kind → Bool
  | .driverWarn | .conditionsStale | .oilLow => true
  | .trackingError => c.selfClearing
  | _ => false

/-- A kind whose reaction is one of two is latched on a unit. -/
def Part.latchedWith (p : Part) (u : Unit15) (r : Reaction → Bool) : Bool :=
  allKinds.any fun k => p.isLatched k u && (match p.cfg.reaction k with | some x => r x | none => false)

/-- A fault with reaction PARK or FORCE is latched on phaser i or on OUTi (R51). -/
def Part.unlockBarred (p : Part) (i : Fin 4) : Bool :=
  p.latchedWith (phaserUnit i) (· ≠ .proceed) || p.latchedWith (outputUnit (phaserOutput i)) (· ≠ .proceed)

/-- A latched fault keeps phaser i faulted (R132). -/
def Part.phaserKept (p : Part) (i : Fin 4) : Bool :=
  p.latchedWith (phaserUnit i) (· = .force) || p.latchedWith (outputUnit (phaserOutput i)) (· = .force)

/-- A latched fault keeps selector j faulted (R132). -/
def Part.selectorKept (p : Part) (j : Fin 2) : Bool :=
  p.isLatched .selectorUnconfirmed (selectorUnit j) ||
  p.latchedWith (outputUnit (selectorOutput j)) (· ≠ .proceed)

/-! ## Registers and lines -/

/-- FLTSTAT (R129): the LINE kinds latched or present on any unit. -/
def Part.fltstat (p : Part) : KindSet :=
  allUnits.foldl (fun s u => s ||| vget p.latched u ||| vget p.present u) 0 &&& p.cfg.line

/-- FLT is asserted (R129). -/
def Part.flt (p : Part) : Bool := decide (p.fltstat ≠ 0)

/-- The ATTN line is asserted (R151). -/
def Part.attnLine (p : Part) : Bool := decide (p.xu.attn &&& p.xu.attnen ≠ 0)

/-- PORTCTL (Table 10-1): RETAIN reads 1 from an accepted request until the entry ends or a reset (R155). The bits
without a name read 0 (DESIGN CHOICE, log 72). -/
def Part.portctl (p : Part) : Word := flagsWord [decide (p.power.state ≠ .run), p.xu.haltLearn]

/-- PORTSTAT (Table 10-1). The bits without a name read 0 (DESIGN CHOICE, log 72). -/
def Part.portstat (p : Part) : Word :=
  let page := match p.heldPage with
    | none => 0
    | some n => n.val + 1
  wordOfNat (page + 4 * p.xu.protectedWrite.toNat + 8 * p.xu.notesWithheld.toNat + 16 * p.config.isSome.toNat +
    32 * p.standby.toNat + 64 * p.angle.sync.code + 256 * p.stage.shutdown.toNat + 512 * p.power.wakeCause.code)

/-- IDENT (R135). -/
def identWord : Word := wordOfNat (256 * Config.familyCode + Config.revisionCode)

/-- What a register reads (Table 10-1). The bits of ATTN, ATTNEN and FLTSTAT without a name read 0 (DESIGN CHOICE, log
72). -/
def Part.register (p : Part) (reg : Fin 8) : Word :=
  match reg with
  | 0 => identWord
  | 1 => p.portctl
  | 2 => p.portstat
  | 3 => p.xu.attn.setWidth 16
  | 4 => p.xu.attnen.setWidth 16
  | 5 => wordOfNat p.xu.cycle
  | 6 => p.power.waketime
  | 7 => p.fltstat.setWidth 16

end Sys2Proof.Machine
end

