-- ==== Sys2Proof/Machine/Faults.lean ====
section
/-! DEFINITION. The Fault Unit's sets: reports to the Cam Edge Unit of a phaser's state, leaving FAULTED, and cease
reports (R38, R132, R123). -/

namespace Sys2Proof.Machine

/-- The Phase Control Unit reports a phaser's state and park_confirmed to the Cam Edge Unit (R38). -/
def Part.camReport (i : Fin 4) (state : PhaserState) (confirmed : Bool) (p : Part) : Part :=
  let c := vget p.cams i
  let fresh := decide (state ≠ .parked ∨ c.state ≠ .parked)
  let c := { c with state := state, confirmed := confirmed, rest := if fresh then 0 else c.rest,
                    confirm := if fresh then 0 else c.confirm }
  { p with cams := vset p.cams i c }

/-- A release from fault to a phaser: to PARKED with park_confirmed false (R64, R132). -/
def Part.releasePhaser (i : Fin 4) (p : Part) : Part :=
  let c := { vget p.phasers i with state := .parked, confirmed := false, settle := 0 }
  let p := { p with phasers := vset p.phasers i c }
  (p.camReport i .parked false).writePhaser i

/-- A release from fault to a selector: to LOW with its output released (R104, R132). -/
def Part.releaseSelector (j : Fin 2) (p : Part) : Part :=
  let n := selectorOutput j
  let p := { p with selectors := vset p.selectors j { vget p.selectors j with state := .low } }
  let p := { p with channels := vset p.channels n { vget p.channels n with request := .release } }
  p.writeSelector j

/-- The judgement of R132 for one phaser. -/
def Part.judgePhaser (i : Fin 4) (p : Part) : Part :=
  if (vget p.phasers i).state = .faulted ∧ p.phaserKept i = false then p.releasePhaser i else p

/-- The judgement of R132 for one selector. -/
def Part.judgeSelector (j : Fin 2) (p : Part) : Part :=
  if (vget p.selectors j).state = .faulted ∧ p.selectorKept j = false then p.releaseSelector j else p

/-- The judgement of R132 for every faulted owner, phasers and then selectors in index order (DESIGN CHOICE, log
68). -/
def Part.judgeReleases (p : Part) : Part :=
  allSelectors.foldl (fun p j => p.judgeSelector j) (allPhasers.foldl (fun p i => p.judgePhaser i) p)

/-- Remove a kind from a unit's latched set. -/
def Part.unlatch (k : Kind) (u : Unit15) (p : Part) : Part :=
  { p with latched := vset p.latched u (KindSet.drop (vget p.latched u) k) }

/-- A cease report (R123): the kind leaves the present set, and the latched set too when it is self-clearing; a removal
from the latched set is followed by R132. The summary comes before that judgement (DESIGN CHOICE, log 68). A kind that
is not present changes nothing. -/
def Part.cease (k : Kind) (u : Unit15) (p : Part) : Part :=
  if p.isPresent k u then
    let p := { p with present := vset p.present u (KindSet.drop (vget p.present u) k) }
    if p.cfg.clearsItself k && p.isLatched k u then (p.unlatch k u).writeSummary.judgeReleases
    else p.writeSummary
  else p

end Sys2Proof.Machine
end

