-- ==== Sys2Proof/Machine/Channels.lean ====
section
/-! DEFINITION. The output channels: what a channel applies, its entry into OFF, PWM, PEAK and PROBE, and the probe
sequence (R105 to R109, R113, R115 to R117, R121). -/

namespace Sys2Proof.Machine

/-- Store a channel; the driver status record is written at a change of mode, open-load state, tripped flag or probe
result (R121), once for what changes together and before the raise or cease that goes with it (DESIGN CHOICE, log
66). -/
def Part.putChannel (n : Fin 6) (c : Channel) (p : Part) : Part :=
  let old := vget p.channels n
  let p := { p with channels := vset p.channels n c }
  if old.mode ≠ c.mode ∨ old.openLoad ≠ c.openLoad ∨ old.tripped ≠ c.tripped ∨ old.probeResult ≠ c.probeResult
  then p.writeDriver else p

/-- Store the stage items; the driver status record is written at a change of the warning, shutdown, discharge or
probe state (R121), before the raise or cease that goes with it (DESIGN CHOICE, log 66). -/
def Part.putStage (g : Stage) (p : Part) : Part :=
  let old := p.stage
  let p := { p with stage := g }
  if old.warning ≠ g.warning ∨ old.shutdown ≠ g.shutdown ∨ old.discharge ≠ g.discharge ∨ old.probe ≠ g.probe
  then p.writeDriver else p

/-- A channel on entry into OFF: the period and the peak timer end, both counts become 0 (R112) and an ACTIVE open
load ends (R113). The measured current, the running maximum and dip reported stay (R108, R158). -/
def Channel.toOff (c : Channel) : Channel :=
  { c with mode := .off, level := 0, openCount := 0, goodCount := 0, onActive := false, firstCheck := false,
           openLoad := if c.openLoad = .active then .none else c.openLoad }

/-- The channel goes to OFF; an ACTIVE open load ceases (R106, R113). -/
def Part.channelOff (n : Fin 6) (p : Part) : Part :=
  let c := vget p.channels n
  if c.mode = .off then p
  else
    let p := p.putChannel n c.toOff
    if c.openLoad = .active then p.cease .openLoad (outputUnit n) else p

/-- Something holds the channel off whatever its request (R106, first case). -/
def Part.holdsOff (p : Part) (n : Fin 6) : Bool :=
  p.stage.shutdown || p.stage.discharge || (vget p.channels n).tripped

/-- Ticks of a PWM period (R107). -/
def Part.periodTicks (p : Part) : Nat := roundHalfUp Config.ticksPerSecond p.cfg.pwmFreq

/-- Start a PWM period at a duty (R107). -/
def Part.startPeriod (n : Fin 6) (d : Nat) (p : Part) : Part :=
  p.putChannel n { vget p.channels n with mode := .pwm, level := d, onActive := true,
                                          onTicks := roundHalfUp (p.periodTicks * d) 1000 }

/-- Enter PEAK (R109). -/
def Part.enterPeak (n : Fin 6) (peak : Nat) (p : Part) : Part :=
  let c := vget p.channels n
  p.putChannel n { c with mode := .peak, level := peak, runMax := 0, dipReported := false, openCount := 0,
                          goodCount := if c.mode = .peak then c.goodCount else 0, firstCheck := true,
                          onActive := false }

/-- The channel applies its stored request, unless it is held off or probed (R106, R107, R109). A change from one
non-zero duty to another waits for the next period. -/
def Part.applyRequest (n : Fin 6) (p : Part) : Part :=
  if p.holdsOff n then p.channelOff n
  else
    let c := vget p.channels n
    if c.mode = .probe then p
    else match c.request with
      | .release => p.channelOff n
      | .energise peak _ _ _ => p.enterPeak n peak
      | .duty d => if d = 0 then p.channelOff n else if c.mode = .pwm then p else p.startPeriod n d

/-- An owner's request replaces the stored one at once (R106). -/
def Part.request (n : Fin 6) (r : Request) (p : Part) : Part :=
  let p := { p with channels := vset p.channels n { vget p.channels n with request := r } }
  p.applyRequest n

/-- Every channel applies its stored request, when what held all of them off has ceased (R106, R119, R120), in index
order (DESIGN CHOICE, log 64). -/
def Part.applyAll (p : Part) : Part := allOutputs.foldl (fun p n => p.applyRequest n) p

/-- Every channel goes to OFF (R119, R120), in index order (DESIGN CHOICE, log 64). -/
def Part.allOff (p : Part) : Part := allOutputs.foldl (fun p n => p.channelOff n) p

/-! ## The passive probe (section 6.7) -/

/-- The next named output that is not yet judged: the lowest one PENDING (R116). -/
def Part.nextPending (p : Part) : Option (Fin 6) :=
  allOutputs.find? fun n => decide ((vget p.channels n).probeResult = .pending)

/-- Take the next named output, or end the probe (R116). An output held off by its tripped flag stays OFF through its
turn (log 18). The 2 mA diagnostic current is the applied level of PROBE (log 39). The stage's output being probed
changes before that channel enters PROBE (DESIGN CHOICE, log 63). -/
def Part.probeNext (p : Part) : Part :=
  let next := p.nextPending
  let p := p.putStage { p.stage with probe := next }
  match next with
  | none => p
  | some n =>
    let c := vget p.channels n
    if p.holdsOff n then p else p.putChannel n { c with mode := .probe, level := 2 }

/-- Start the probe of the outputs a mask names: each named result becomes PENDING, then the probe state RUNNING (R115;
order: DESIGN CHOICE, log 49). -/
def Part.startProbe (mask : Word) (p : Part) : Part :=
  (allOutputs.foldl (fun p n =>
    if bitOf mask n.val then p.putChannel n { vget p.channels n with probeResult := .pending } else p) p).probeNext

/-- Abort a running probe (R117): the output being probed and those not yet reached get ABORTED, the channel in PROBE
returns to OFF, the probe state becomes IDLE. The outputs are taken in index order, ABORTED and OFF of a channel in
PROBE as one change, and IDLE comes last (DESIGN CHOICE, log 62). -/
def Part.abortProbe (p : Part) : Part :=
  match p.stage.probe with
  | none => p
  | some _ =>
    let p := allOutputs.foldl (fun p n =>
      let c := vget p.channels n
      let c := if c.probeResult = .pending then { c with probeResult := .aborted } else c
      p.putChannel n (if c.mode = .probe then c.toOff else c)) p
    p.putStage { p.stage with probe := none }

/-- The first failing condition of R115 as the PROBE_REFUSED detail of Table 9-3. -/
def Part.probeRefusal (p : Part) : Option Nat :=
  if !p.standby then some 0
  else if p.angle.sync ≠ .stopped then some 1
  else if p.stage.shutdown then some 2
  else if p.stage.discharge then some 3
  else if p.stage.probe.isSome then some 4
  else none

/-- A targets page asks for a probe (R115); bits 6 to 15 of the mask are ignored (Table 8-4). -/
def Part.askProbe (mask : Word) (p : Part) : Part :=
  if mask.extractLsb' 0 6 = 0 then p
  else match p.probeRefusal with
    | some why => p.note .probeRefused stageUnit (detailOf why)
    | none => p.startProbe mask

end Sys2Proof.Machine
end

