-- ==== Sys2Proof/Machine/Control.lean ====
section
/-! DEFINITION. The phaser context by itself: the entries into its states (chapter 3), the control computation and
hold-duty learning (chapter 4), and what an update makes of the context. -/

namespace Sys2Proof.Machine

/-! ## Entries into states (R47, R52, R53, R62, R65) -/

/-- Entry into PARKED: D and I become 0, the counters and the hold are cleared (R47, R56, R61, R65). -/
def PhaserCtx.toParked (confirmed : Bool) (c : PhaserCtx) : PhaserCtx :=
  { c with state := .parked, confirmed := confirmed, duty := 0, integ := 0, settle := 0, edges := 0, run := 0,
           track := 0, recov := 0, held := false }

/-- Entry into FAULTED (R47, R62). -/
def PhaserCtx.toFaulted (c : PhaserCtx) : PhaserCtx :=
  { c with state := .faulted, confirmed := false, duty := 0, integ := 0, settle := 0, edges := 0, run := 0,
           track := 0, recov := 0, held := false }

/-- Entry into RETURNING at the park duty (R47, R53). -/
def PhaserCtx.toReturning (parkDuty : Nat) (c : PhaserCtx) : PhaserCtx :=
  { c with state := .returning, duty := parkDuty, settle := 0, edges := 0, run := 0, track := 0, recov := 0,
           held := false }

/-- Entry into UNLOCKING at the unlock duty (R47, R51). -/
def PhaserCtx.toUnlocking (unlockDuty : Nat) (c : PhaserCtx) : PhaserCtx :=
  { c with state := .unlocking, duty := unlockDuty, settle := 0, edges := 0, run := 0 }

/-- The release from UNLOCKING into TRACKING: Tr starts at the measured phase (R52). -/
def PhaserCtx.toTracking (stroke : Nat) (c : PhaserCtx) : PhaserCtx :=
  { c with state := .tracking, integ := 0, settle := 0, edges := 0, run := 0, track := 0, recov := 0,
           tr := (clampInt 0 stroke c.phase).toNat }

/-- A controlling state: UNLOCKING, TRACKING, HOLDING or RETURNING (R65). -/
def PhaserState.driven : PhaserState → Bool
  | .unlocking | .tracking | .holding | .returning => true
  | .parked | .faulted => false

/-- The hold handed by the head's selector (R59). -/
def PhaserCtx.takeHold (c : PhaserCtx) : PhaserCtx :=
  match c.state with
  | .tracking => { c with state := .holding, settle := 0, held := true }
  | .holding => { c with held := true }
  | .parked | .unlocking | .returning | .faulted => c

/-- The release handed at the end of a shift (R60). -/
def PhaserCtx.takeRelease (c : PhaserCtx) : PhaserCtx :=
  if c.state = .holding ∧ c.freeze = false then { c with held := false, state := .tracking, settle := 0 }
  else { c with held := false }

/-! ## The figures of the computation (section 4.2) -/

/-- The oil band of Table 4-2. -/
def oilBand (temp : Int) : Nat := if temp < 0 then 0 else min 7 (temp.toNat / 20 + 1)

/-- The band in use (R70). -/
def Part.bandFor (p : Part) (c : PhaserCtx) : Nat := if p.stale then c.band else oilBand p.xu.oilTemp

/-- The pressure factor (R72). -/
def Part.pressureFactor (p : Part) (pnom : Nat) : Nat :=
  if p.stale then 64
  else if p.xu.oilPressure = 0 then 128
  else clampNat 32 128 (roundHalfUp (64 * pnom) p.xu.oilPressure)

/-- Limit of the integrator: ±(Ilim × 256). -/
def clampInteg (ilim : Nat) (x : Int) : Int := clampInt (-(ilim * 256 : Nat)) (ilim * 256 : Nat) x

/-- The ten stages (R70 to R76): the context after them. Stage 10's hand-over is the owner's (`Part.commitPhaser`). -/
def Part.compute (p : Part) (i : Fin 4) (c : PhaserCtx) : PhaserCtx :=
  let g := p.phaserCfg i
  let band := p.bandFor c
  let hold := (vget p.holdTable (holdIndex i band)).value
  let e := clampInt (-600) 600 ((c.tr : Int) - c.phase)
  let prop := (g.kp : Int) * e
  let cand := c.integ + (g.ki : Int) * e
  let corr := roundHalfAway (prop + cand) 256
  let f := p.pressureFactor g.pnom
  let scaled := roundHalfAway (corr * f) 64
  let raw := (hold : Int) + scaled
  let duty := (clampInt g.dmin g.dmax raw).toNat
  let integ :=
    if (raw > g.dmax ∧ e > 0) ∨ (raw < g.dmin ∧ e < 0) then c.integ else clampInteg g.ilim cand
  { c with err := e, integ := integ, duty := duty, band := band, hold := hold, factor := f }

/-! ## Hold-duty learning (section 4.7) -/

/-- The settle test (R77); `prevBand` is the band kept aside by R70. -/
def Part.settled (p : Part) (prevBand : Nat) (c : PhaserCtx) : Bool :=
  decide (c.state = .tracking ∧ c.tr = c.ta ∧ -3 ≤ c.err ∧ c.err ≤ 3 ∧ c.band = prevBand) && !p.stale &&
  !p.xu.haltLearn

/-- The new hold value of a learning step: H plus the proposed step, clamped (R78). -/
def learnedHold (g : PhaserCfg) (c : PhaserCtx) : Int :=
  clampInt g.holdMin g.holdMax ((c.hold : Int) + roundHalfAway ((c.duty : Int) - c.hold) 8)

/-- What an update makes of a context: the context, a hold-table entry to store at its band, whether the learning
clamp acted (R80), whether the computation ran, whether TRACKING_ERROR ceases (R57), and the raises. -/
structure UpdateOut where
  ctx       : PhaserCtx
  entry     : Option HoldEntry
  limited   : Bool
  computed  : Bool
  recovered : Bool
  raises    : List (Kind × Detail)
  deriving DecidableEq, Repr

/-- An update that changes the context alone. -/
def UpdateOut.plain (c : PhaserCtx) : UpdateOut :=
  { ctx := c, entry := none, limited := false, computed := false, recovered := false, raises := [] }

/-- The settle counter and, at 8, the learning step with its give-back (R77 to R79). -/
def Part.learn (p : Part) (i : Fin 4) (prevBand : Nat) (c : PhaserCtx) : UpdateOut :=
  let o := UpdateOut.plain c
  if !p.settled prevBand c then { o with ctx := { c with settle := 0 }, computed := true }
  else if c.settle + 1 < 8 then { o with ctx := { c with settle := c.settle + 1 }, computed := true }
  else
    let g := p.phaserCfg i
    let proposed := roundHalfAway ((c.duty : Int) - c.hold) 8
    let value := learnedHold g c
    let step := value - c.hold
    let back := roundHalfAway (step * 256 * 64) c.factor
    let count := (vget p.holdTable (holdIndex i c.band)).count
    { o with
      ctx := { c with hold := value.toNat, integ := clampInteg g.ilim (c.integ - back), settle := 0 },
      entry := some { value := value.toNat, count := min (count + 1) 255 },
      limited := decide (step ≠ proposed),
      computed := true }

/-! ## Tracking error (R56, R57) -/

/-- Step 4 of a TRACKING update. -/
def Part.judgeTracking (p : Part) (i : Fin 4) (o : UpdateOut) : UpdateOut :=
  let g := p.phaserCfg i
  let c := o.ctx
  let wide := decide (c.err.natAbs > g.trackLimit)
  if p.isPresent .trackingError (phaserUnit i) then
    let recov := if wide then 0 else c.recov + 1
    if recov = 4 then { o with ctx := { c with recov := 0, track := 0 }, recovered := true }
    else { o with ctx := { c with recov := recov } }
  else
    let track := if c.tr = c.ta ∧ wide = true then c.track + 1 else 0
    let o := { o with ctx := { c with track := min track g.trackCount } }
    if wide = true ∧ c.tr = c.ta ∧ track ≥ g.trackCount then
      { o with raises := o.raises ++ [(.trackingError, detailOf c.err)] }
    else o

/-! ## The updates by state -/

/-- The ramp (R55, step 2). -/
def rampStep (slew : Nat) (c : PhaserCtx) : PhaserCtx :=
  if slew = 0 then { c with tr := c.ta }
  else { c with tr := ((c.tr : Int) + clampInt (-(slew : Int)) slew ((c.ta : Int) - c.tr)).toNat }

/-- A TRACKING update from step 2 on (R55). -/
def Part.trackFromRamp (p : Part) (i : Fin 4) (c : PhaserCtx) : UpdateOut :=
  let c := rampStep (p.phaserCfg i).slew c
  p.judgeTracking i (p.learn i c.band (p.compute i c))

/-- Step 2 of a HOLDING update (R58). -/
def Part.holdCompute (p : Part) (i : Fin 4) (c : PhaserCtx) : UpdateOut :=
  { UpdateOut.plain { p.compute i c with settle := 0 } with computed := true }

/-- A TRACKING update from step 1 on (R55). -/
def Part.trackFromFreeze (p : Part) (i : Fin 4) (c : PhaserCtx) : UpdateOut :=
  if c.freeze then p.holdCompute i { c with state := .holding, settle := 0 } else p.trackFromRamp i c

/-- The oil-pressure stop condition (R53). -/
def Part.oilStop (p : Part) : Bool := decide (p.xu.oilPressure < p.cfg.holdPressure)

/-- A stop condition holds (R53). -/
def Part.stopHolds (p : Part) (c : PhaserCtx) : Bool :=
  !c.enabled || decide (p.angle.speed + p.cfg.enableHyst < p.cfg.enableSpeed) || p.oilStop

/-- The stop (R53), raising OIL_LOW when the pressure is its cause or one of them (R54). -/
def Part.stop (p : Part) (i : Fin 4) (c : PhaserCtx) : UpdateOut :=
  { UpdateOut.plain (c.toReturning (p.phaserCfg i).parkDuty) with
    raises := if p.oilStop then [(.oilLow, detailOf p.xu.oilPressure)] else [] }

/-- The head's selector bars an unlock (R51). -/
def SelectorState.barsUnlock : SelectorState → Bool
  | .armedUp | .armedDown | .shiftingUp | .shiftingDown => true
  | .low | .high | .faulted => false

/-- The start conditions (R51). -/
def Part.startHolds (p : Part) (i : Fin 4) (c : PhaserCtx) : Bool :=
  decide (p.angle.sync = .cycleLocked) && p.config.isSome && c.enabled && decide (0 < c.ta) &&
  decide (p.cfg.enableSpeed ≤ p.angle.speed) && !p.stale && decide (p.cfg.enableTemp ≤ p.xu.oilTemp) &&
  decide (p.cfg.unlockPressure ≤ p.xu.oilPressure) && c.confirmed &&
  !(vget p.selectors (headOf i)).state.barsUnlock && !p.unlockBarred i && !p.stage.shutdown

/-- An update of an UNLOCKING phaser past its stop conditions (R52). -/
def Part.unlockUpdate (p : Part) (i : Fin 4) (c : PhaserCtx) : UpdateOut :=
  let g := p.phaserCfg i
  let c := { c with edges := c.edges + 1, run := if 20 ≤ c.phase then c.run + 1 else 0 }
  if 2 ≤ c.run then p.trackFromFreeze i (c.toTracking g.stroke)
  else { UpdateOut.plain c with raises := if g.unlockEdges ≤ c.edges then [(.lockStuck, detailOf c.phase)] else [] }

/-- An update of a RETURNING phaser (R61). -/
def Part.returnUpdate (p : Part) (i : Fin 4) (c : PhaserCtx) : UpdateOut :=
  let g := p.phaserCfg i
  let c := { c with edges := c.edges + 1, run := if c.phase ≤ 5 then c.run + 1 else 0 }
  if 2 ≤ c.run then UpdateOut.plain (c.toParked true)
  else { UpdateOut.plain c with raises := if g.returnEdges ≤ c.edges then [(.returnStuck, detailOf c.phase)] else [] }

/-- What an update does in the state it finds, after the measurement and the demand are taken (R50 to R64). -/
def Part.updateBody (p : Part) (i : Fin 4) (c : PhaserCtx) : UpdateOut :=
  match c.state with
  | .parked => UpdateOut.plain (if p.startHolds i c then c.toUnlocking (p.phaserCfg i).unlockDuty else c)
  | .unlocking => if p.stopHolds c then p.stop i c else p.unlockUpdate i c
  | .tracking => if p.stopHolds c then p.stop i c else p.trackFromFreeze i c
  | .holding =>
    if p.stopHolds c then p.stop i c
    else if c.freeze = false ∧ c.held = false then p.trackFromRamp i { c with state := .tracking, settle := 0 }
    else p.holdCompute i c
  | .returning => p.returnUpdate i c
  | .faulted => UpdateOut.plain c

end Sys2Proof.Machine
end

