-- ==== Sys2Proof/Machine/Owners.lean ====
section
/-! DEFINITION. The owners of the actuators: changes of a phaser's or a selector's state with all they are told to
(R46, R47, R87, R88), what a reaction, a hold, a release or a drop does to them, and taking a fault raise (R124). -/

namespace Sys2Proof.Machine

/-! ## Phasers -/

/-- Store a phaser context: the Cam Edge Unit is told of a change of state or park_confirmed (R38, R46), the Output
Driver Unit of a change of D (R46, R47). -/
def Part.storePhaser (i : Fin 4) (c : PhaserCtx) (p : Part) : Part :=
  let old := vget p.phasers i
  let p := { p with phasers := vset p.phasers i c }
  let p := if old.state ≠ c.state ∨ old.confirmed ≠ c.confirmed then p.camReport i c.state c.confirmed else p
  if old.duty ≠ c.duty then p.request (phaserOutput i) (.duty c.duty) else p

/-- Entry into PARKED or FAULTED from another state ends TRACKING_ERROR (R57). -/
def Part.endTracking (i : Fin 4) (old new : PhaserState) (p : Part) : Part :=
  if old ≠ new ∧ (new = .parked ∨ new = .faulted) then p.cease .trackingError (phaserUnit i) else p

/-- A change of a context between updates: the record is written when state, park_confirmed or held_by_selector
changed (R46). The duty request comes before the context record, and that record before the end of TRACKING_ERROR
(DESIGN CHOICE, log 56). -/
def Part.changePhaser (i : Fin 4) (c : PhaserCtx) (p : Part) : Part :=
  let old := vget p.phasers i
  let p := p.storePhaser i c
  let p := if old.state ≠ c.state ∨ old.confirmed ≠ c.confirmed ∨ old.held ≠ c.held then p.writePhaser i else p
  p.endTracking i old.state c.state

/-- A FORCE reaction (R62). -/
def Part.forcePhaser (i : Fin 4) (p : Part) : Part :=
  let c := vget p.phasers i
  if c.state = .faulted then p else p.changePhaser i c.toFaulted

/-- A PARK reaction (R63). -/
def Part.parkPhaser (i : Fin 4) (p : Part) : Part :=
  let c := vget p.phasers i
  match c.state with
  | .unlocking | .tracking | .holding => p.changePhaser i (c.toReturning (p.phaserCfg i).parkDuty)
  | .parked | .returning | .faulted => p

/-- Loss of cycle lock or stage shutdown (R65, R66). -/
def Part.dropPhaser (i : Fin 4) (p : Part) : Part :=
  let c := vget p.phasers i
  if c.state.driven then p.changePhaser i (c.toParked false) else p

/-- Every phaser is dropped (R65, R66), in index order (DESIGN CHOICE, log 58). -/
def Part.dropPhasers (p : Part) : Part := allPhasers.foldl (fun p i => p.dropPhaser i) p

/-- A hold from the selector of head j to both its phasers (R59), the intake phaser first (DESIGN CHOICE, log 57). -/
def Part.holdHead (j : Fin 2) (p : Part) : Part :=
  let p := p.changePhaser (intakeOf j) (vget p.phasers (intakeOf j)).takeHold
  p.changePhaser (exhaustOf j) (vget p.phasers (exhaustOf j)).takeHold

/-- A release from the selector of head j to both its phasers (R60), the intake phaser first (DESIGN CHOICE, log
57). -/
def Part.releaseHead (j : Fin 2) (p : Part) : Part :=
  let p := p.changePhaser (intakeOf j) (vget p.phasers (intakeOf j)).takeRelease
  p.changePhaser (exhaustOf j) (vget p.phasers (exhaustOf j)).takeRelease

/-! ## Selectors -/

/-- Plan slot of a selector (Table 1-7). -/
def planSlot (j : Fin 2) : Fin 24 := ⟨16 + 3 * j.val, by omega⟩

/-- Action slot of a selector: energise or release (Table 1-7). -/
def actionSlot (j : Fin 2) : Fin 24 := ⟨17 + 3 * j.val, by omega⟩

/-- Window-close slot of a selector (Table 1-7). -/
def closeSlot (j : Fin 2) : Fin 24 := ⟨18 + 3 * j.val, by omega⟩

/-- The energise request of selector j (R88). -/
def Part.energiseRequest (p : Part) (j : Fin 2) : Request :=
  let g := p.selectorCfg j
  .energise g.peakCurrent g.holdCurrent g.dipThreshold (g.tResp + g.tMove)

/-- What a selector asks of its output on entry into a state (R88). -/
def Part.entryRequest (p : Part) (j : Fin 2) : SelectorState → Option Request
  | .shiftingUp => some (p.energiseRequest j)
  | .shiftingDown | .low | .faulted => some .release
  | .armedUp | .high | .armedDown => none

/-- Store a selector context. A change of state asks the output for what the state entered asks (R88), writes the
context record after that (R87; order: DESIGN CHOICE, log 60) and, on entry into FAULTED, ends SELECTOR_UNCONFIRMED
after it (R101; order: DESIGN CHOICE, log 47). -/
def Part.changeSelector (j : Fin 2) (c : SelectorCtx) (p : Part) : Part :=
  let old := vget p.selectors j
  let p := { p with selectors := vset p.selectors j c }
  if old.state = c.state then p
  else
    let p := match p.entryRequest j c.state with
      | some r => p.request (selectorOutput j) r
      | none => p
    let p := p.writeSelector j
    if c.state = .faulted then p.cease .selectorUnconfirmed (selectorUnit j) else p

/-- A shift is in progress. -/
def SelectorState.shifting : SelectorState → Bool
  | .shiftingUp | .shiftingDown => true
  | .low | .armedUp | .high | .armedDown | .faulted => false

/-- The states whose drop makes a note (R102). -/
def SelectorState.notesDrop : SelectorState → Bool
  | .shiftingUp | .high | .armedDown | .shiftingDown => true
  | .low | .armedUp | .faulted => false

/-- The flags a drop or a FORCE reaction clears (R102, R104). -/
def SelectorCtx.cleared (c : SelectorCtx) : SelectorCtx :=
  { c with retry := false, releaseOwed := false, owedPlan := false, faultOnLow := false, dipSeen := false,
           deferCount := 0 }

/-- A shift cut short: when and how it ended (R102; R104 with log 19). -/
def SelectorCtx.cutShort (cycle : Nat) (c : SelectorCtx) : SelectorCtx :=
  if c.state.shifting then { c with lastShiftCycle := cycle, lastShiftResult := .dropped } else c

/-- Selector j is dropped on loss of cycle lock or stage shutdown (R102, R103); the order of what it hands out is a
DESIGN CHOICE (log 46). -/
def Part.dropSelector (j : Fin 2) (p : Part) : Part :=
  let c := vget p.selectors j
  if c.state = .faulted then p
  else
    let p := if c.state.notesDrop then p.note .selectorDropped (selectorUnit j) (detailOf c.state.code) else p
    let p := if c.state.shifting then p.releaseHead j else p
    let next := if p.isLatched .selectorUnconfirmed (selectorUnit j) then SelectorState.faulted else .low
    p.changeSelector j { (c.cutShort p.xu.cycle).cleared with state := next }

/-- Every selector is dropped (R102, R103), FS before RS (DESIGN CHOICE, log 61). -/
def Part.dropSelectors (p : Part) : Part := allSelectors.foldl (fun p j => p.dropSelector j) p

/-- Cancel the action and window matches of a selector (R103, R104). -/
def Part.cancelShift (j : Fin 2) (p : Part) : Part := (p.cancelMatch (actionSlot j)).cancelMatch (closeSlot j)

/-- A FORCE reaction to a selector (R104); the order of what it hands out is a DESIGN CHOICE (log 46). -/
def Part.forceSelector (j : Fin 2) (p : Part) : Part :=
  let c := vget p.selectors j
  if c.state = .faulted then p
  else
    let p := p.cancelShift j
    let p := if c.state.shifting then p.releaseHead j else p
    p.changeSelector j { (c.cutShort p.xu.cycle).cleared with state := .faulted }

/-! ## Taking a raise (section 7.3) -/

/-- Hand a reaction to the owner of a unit (Table 7-1, R127). A selector has no PARK: OPEN_LOAD on its output reaches
it as FORCE under PARK too. -/
def Part.react (u : Unit15) (r : Reaction) (p : Part) : Part :=
  let phaser (i : Fin 4) : Part :=
    match r with
    | .force => p.forcePhaser i
    | .park => p.parkPhaser i
    | .proceed => p
  let selector (j : Fin 2) : Part := if r = .proceed then p else p.forceSelector j
  match u with
  | 0 => phaser 0 | 1 => phaser 1 | 2 => phaser 2 | 3 => phaser 3
  | 4 => selector 0 | 5 => selector 1
  | 6 => phaser 0 | 7 => phaser 1 | 8 => phaser 2 | 9 => phaser 3
  | 10 => selector 0 | 11 => selector 1
  | 12 | 13 | 14 => p

/-- Step 1 of R124 and R125: the kind joins the latched set, and the present set when the present flag is set. -/
def Part.latch (k : Kind) (u : Unit15) (present : Bool) (p : Part) : Part :=
  let p := { p with latched := vset p.latched u (KindSet.add (vget p.latched u) k) }
  if present then { p with present := vset p.present u (KindSet.add (vget p.present u) k) } else p

/-- A raise is taken, first or repeated (R124, R125). FLT follows the sets (`Part.flt`). A condition that the reaction
ends ceases within step 3, before the note and FAULT (DESIGN CHOICE, log 50). -/
def Part.raise (k : Kind) (u : Unit15) (d : Detail) (present : Bool) (p : Part) : Part :=
  let p := (p.latch k u present).writeSummary
  let p := match p.cfg.reaction k with
    | some r => p.react u r
    | none => p
  (p.note (.fault k) u d).setCause .fault

end Sys2Proof.Machine
end

