-- ==== Sys2Proof/Machine/Measure.lean ====
section
/-! DEFINITION. A phaser's update and the Cam Edge Unit: passes, window checks, the classification of an edge,
reference learning and park confirmation (chapter 2; R46, R48, R54, R86). -/

namespace Sys2Proof.Machine

/-! ## The extremes record (R85, R86) -/

/-- First word of an extremes record (Table 9-4). -/
def extremesBase (i : Fin 4) : Nat := 0x040 + 8 * i.val

/-- Update the extremes record of phaser i with the e and D of a computation, against the words found (R86). -/
def Part.updateExtremes (m : Mem) (i : Fin 4) (c : PhaserCtx) (p : Part) : Part :=
  let a := extremesBase i
  let maxE := (p.seen m a).toInt
  let minE := (p.seen m (a + 1)).toInt
  let maxD := (p.seen m (a + 2)).toNat
  let minD := (p.seen m (a + 3)).toNat
  let worse := decide ((c.err.natAbs : Int) > max maxE (-minE))
  p.handOver (.extremes i)
    [wordOfInt (max maxE c.err), wordOfInt (min minE c.err), wordOfNat (max maxD c.duty), wordOfNat (min minD c.duty),
     if worse then wordOfNat p.xu.cycle else p.seen m (a + 4),
     if worse then highWord p.xu.cycle else p.seen m (a + 5), 0, 0]

/-! ## The update -/

/-- The measurement, the confirmation and the stored demand enter a context (R33, R48, R50). -/
def PhaserCtx.take (phase : Int) (confirm : Bool) (d : Demand) (cycle : Nat) (c : PhaserCtx) : PhaserCtx :=
  { c with phase := phase, stretched := false, lastUpdate := cycle,
           confirmed := c.confirmed || (confirm && decide (c.state = .parked)),
           enabled := d.enable, ta := d.target, freeze := d.freeze }

/-- The present flag of a phaser's raise (R123). -/
def Kind.raisedPresent : Kind → Bool
  | .overCurrent | .lockStuck | .returnStuck => false
  | _ => true

/-- What an update's outcome hands out: the extremes record, a learned hold entry, a LEARN_LIMIT note, the context
record, the ends of TRACKING_ERROR and the raises (R46, R57, R78, R80, R86; order: log 33). -/
def Part.finishUpdate (m : Mem) (i : Fin 4) (was : PhaserState) (o : UpdateOut) (p : Part) : Part :=
  let p := p.storePhaser i o.ctx
  let p := if o.computed then p.updateExtremes m i o.ctx else p
  let n := holdIndex i o.ctx.band
  let p := match o.entry with
    | some e => { p with holdTable := vset p.holdTable n e }.writeHold n
    | none => p
  let p := if o.limited then p.note .learnLimit (phaserUnit i) (detailOf o.ctx.band) else p
  let p := (p.writePhaser i).endTracking i was o.ctx.state
  let p := if o.recovered then p.cease .trackingError (phaserUnit i) else p
  o.raises.foldl (fun p r => p.raise r.1 (phaserUnit i) r.2 r.1.raisedPresent) p

/-- A phaser's update (R33 step 4, R48, R54, R68). OIL_LOW's cease test comes before the state's own rule (log 26). -/
def Part.phaserUpdate (m : Mem) (i : Fin 4) (phase : Int) (confirm : Bool) (p : Part) : Part :=
  let p := p.storePhaser i ((vget p.phasers i).take phase confirm (vget p.demand i) p.xu.cycle)
  let p := if p.oilStop then p else p.cease .oilLow (phaserUnit i)
  let c := vget p.phasers i
  p.finishUpdate m i c.state (p.updateBody i c)

/-! ## Windows and passes (R28 to R30) -/

/-- Open of the widened window (R29). -/
def PhaserCfg.wideOpen (g : PhaserCfg) (k : Fin 4) : Nat :=
  match g.direction with
  | .advancing => angleAdd (vget g.nominal k) (-((g.stroke : Int) + 90))
  | .retarding => angleAdd (vget g.nominal k) (-90)

/-- Length of the widened window (R29). -/
def PhaserCfg.wideLength (g : PhaserCfg) : Nat := g.stroke + 180

/-- Check angle of a window (R29). -/
def PhaserCfg.checkAngle (g : PhaserCfg) (k : Fin 4) : Nat :=
  match g.direction with
  | .advancing => angleAdd (vget g.nominal k) 91
  | .retarding => angleAdd (vget g.nominal k) ((g.stroke : Int) + 91)

/-- The phase of an edge at a cycle angle against a reference (R32). -/
def PhaserCfg.phaseOf (g : PhaserCfg) (ref angle : Nat) : Int :=
  let d := wrap ((angle : Int) - ref)
  match g.direction with
  | .advancing => -d
  | .retarding => d

/-- An angle lies in the capture window of a pass (R28). -/
def PhaserCfg.captures (g : PhaserCfg) (ref angle : Nat) : Bool :=
  decide (-50 ≤ g.phaseOf ref angle ∧ g.phaseOf ref angle ≤ (g.stroke : Int) + 50)

/-- The match slot of a window (Table 1-7). -/
def windowSlot (i k : Fin 4) : Fin 24 := ⟨4 * i.val + k.val, by omega⟩

/-- Set up a pass (R30); `entry` at entry into CYCLE_LOCKED and at an adoption. -/
def Part.setupPass (entry : Bool) (i k : Fin 4) (p : Part) : Part :=
  let g := p.phaserCfg i
  let n := windowIndex i k
  let now := (p.angle.a0 + p.angle.clockOffset p.clock) % 7200
  let inside := entry && decide (forward (g.wideOpen k) now ≤ g.wideLength)
  let pass : Pass := { ref := angleAdd (vget g.nominal k) (vget p.refTable n).offset, seen := false,
                       inside := inside, live := true }
  { p with passes := vset p.passes n pass }.requestMatch (windowSlot i k) (g.checkAngle k) .cycle

/-- Set up a pass of every window (R30, R44). -/
def Part.setupPasses (p : Part) : Part :=
  allPhasers.foldl (fun p i => allPhasers.foldl (fun p k => p.setupPass true i k) p) p

/-- The sync state leaves CYCLE_LOCKED: pass live, seen and partial of every window are cleared (R30). -/
def Part.clearPasses (p : Part) : Part :=
  allSixteen.foldl (fun p n =>
    { p with passes := vset p.passes n { vget p.passes n with seen := false, inside := false, live := false } }) p

/-! ## Anomalies (R35 to R37) -/

/-- Count a miss of window k, or a stray, and raise PHASE_IMPLAUSIBLE at 4 (R35, R36, R37). -/
def Part.anomaly (i : Fin 4) (miss : Option (Fin 4)) (p : Part) : Part :=
  let c := vget p.cams i
  if 4 ≤ c.anomaly then p
  else
    let c := { c with anomaly := c.anomaly + 1, misses := c.misses + miss.isSome.toNat,
                      strays := c.strays + miss.isNone.toNat }
    let p := { p with cams := vset p.cams i c }
    if c.anomaly = 4 then
      let window : Nat := match miss with
        | some k => k.val
        | none => 4
      p.raise .phaseImplausible (phaserUnit i) (detailOf2 (c.misses + 256 * c.strays : Nat) window) true
    else p

/-- The window check of window k of phaser i (R35; R39 for the confirm count). -/
def Part.windowCheck (i k : Fin 4) (p : Part) : Part :=
  let pass := vget p.passes (windowIndex i k)
  let p :=
    if pass.seen = false ∧ pass.inside = false then
      { p with cams := vset p.cams i { vget p.cams i with confirm := 0 } }.anomaly i (some k)
    else p
  let c := vget p.cams i
  let rest := if c.state = .parked then min (c.rest + 1) 5 else c.rest
  { p with cams := vset p.cams i { c with rest := rest } }.setupPass false i k

/-! ## Learning (R40 to R43) -/

/-- The learn range (R41). -/
def Configuration.inLearnRange (c : Configuration) (speed : Nat) : Bool :=
  let (lo, hi) := if c.learnMin = 0 ∧ c.learnMax = 0 then (1200, 4000) else (c.learnMin, c.learnMax)
  decide (lo ≤ speed ∧ speed ≤ hi)

/-- The learning conditions (R41). -/
def Part.learns (p : Part) (i : Fin 4) : Bool :=
  let c := vget p.cams i
  decide (c.state = .parked ∧ c.rest = 5) && c.confirmed && p.cfg.inLearnRange p.angle.speed && !p.xu.haltLearn &&
  !p.stale

/-- A learning sample of edge k of phaser i at an angle (R42, R43). The entry's record comes before the summary of a
REFERENCE_DRIFT that the sample ends (DESIGN CHOICE, log 54). -/
def Part.learnReference (i k : Fin 4) (angle : Nat) (p : Part) : Part :=
  let n := windowIndex i k
  let raw := wrap ((angle : Int) - vget (p.phaserCfg i).nominal k)
  let c := vget p.cams i
  if raw.natAbs ≤ 40 then
    let e := vget p.refTable n
    let e := { e with offset := clampInt (-40) 40 (e.offset + roundHalfAway (raw - e.offset) 8),
                      count := min (e.count + 1) 255 }
    let p := { p with refTable := vset p.refTable n e, cams := vset p.cams i { c with drift := 0 } }
    (p.writeRef n).cease .referenceDrift (phaserUnit i)
  else if 8 ≤ c.drift then p
  else
    let p := { p with cams := vset p.cams i { c with drift := c.drift + 1 } }
    if c.drift + 1 = 8 then p.raise .referenceDrift (phaserUnit i) (detailOf2 k.val raw) true else p

/-! ## Edges (R27, R31, R33, R34, R36, R39) -/

/-- Step 3 of R33: the confirm count, and whether the measurement carries the confirmation flag (R39). -/
def CamPhaser.confirmStep (phase : Int) (c : CamPhaser) : CamPhaser × Bool :=
  if c.state = .parked ∧ c.confirmed = false then
    if phase.natAbs ≤ 50 then
      if c.confirm + 1 = 2 then ({ c with confirm := 0 }, true) else ({ c with confirm := c.confirm + 1 }, false)
    else ({ c with confirm := 0 }, false)
  else ({ c with confirm := 0 }, false)

/-- A valid measuring edge (R33). -/
def Part.validEdge (m : Mem) (i k : Fin 4) (angle : Nat) (phase : Int) (p : Part) : Part :=
  let learns := p.learns i
  let p := { p with cams := vset p.cams i { vget p.cams i with anomaly := 0, misses := 0, strays := 0 } }
  let p := p.cease .phaseImplausible (phaserUnit i)
  let p := if learns then p.learnReference i k angle else p
  let (c, confirm) := (vget p.cams i).confirmStep phase
  { p with cams := vset p.cams i c }.phaserUpdate m i phase confirm

/-- A STRETCHED measuring edge (R34). -/
def Part.stretchedEdge (i : Fin 4) (p : Part) : Part :=
  { p with phasers := vset p.phasers i { vget p.phasers i with stretched := true } }.writePhaser i

/-- The first live pass of phaser i, not yet seen, whose capture window holds an angle (R31, case 1). -/
def Part.capturing (p : Part) (i : Fin 4) (angle : Nat) : Option (Fin 4) :=
  allPhasers.find? fun k =>
    let pass := vget p.passes (windowIndex i k)
    pass.live && !pass.seen && (p.phaserCfg i).captures pass.ref angle

/-- An angle lies in the mark window in force (R31 case 2, R12). -/
def AngleUnit.inMark (g : AngleUnit) (revAngle : Nat) : Bool :=
  match g.window with
  | some w => inWindow 3600 w.mo w.mc revAngle
  | none => false

/-- The Cam Edge Unit takes an edge on CAMi (R25, R27, R31). -/
def Part.classify (m : Mem) (i : Fin 4) (t : Tick) (p : Part) : Part :=
  if p.angle.sync = .cycleLocked ∧ p.config.isSome = true then
    let q := p.angle.edgeOffset t
    let stretched := decide (p.angle.span - 1 < q)
    let angle := (p.angle.a0 + min q (p.angle.span - 1)) % 7200
    match p.capturing i angle with
    | some k =>
      let n := windowIndex i k
      let ref := (vget p.passes n).ref
      let p := { p with passes := vset p.passes n { vget p.passes n with seen := true } }
      if stretched then p.stretchedEdge i
      else p.validEdge m i k angle ((p.phaserCfg i).phaseOf ref angle)
    | none => if i = 0 ∧ p.angle.inMark (angle % 3600) = true then p else p.anomaly i none
  else p

end Sys2Proof.Machine
end

