-- ==== Sys2Proof/Machine/Plan.lean ====
section
/-! DEFINITION. The Lobe Selector Unit's matches: planning, switching the solenoid and the window close (sections 5.3,
5.4 and 5.6). -/

namespace Sys2Proof.Machine

/-! ## Conditions for planning (R92) -/

/-- A phaser of the head qualifies (R92, condition 2); `up` is an upward plan's view. -/
def Part.qualifies (p : Part) (j : Fin 2) (up : Bool) (i : Fin 4) : Bool :=
  let c := vget p.phasers i
  match c.state with
  | .parked => true
  | .tracking => decide (c.tr = c.ta ∧ c.err.natAbs ≤ (p.selectorCfg j).settleTol)
  | .faulted => !up
  | .unlocking | .holding | .returning => false

/-- Both phasers of the head qualify. -/
def Part.headQualifies (p : Part) (j : Fin 2) (up : Bool) : Bool :=
  p.qualifies j up (intakeOf j) && p.qualifies j up (exhaustOf j)

/-- The first failing condition of R92. -/
def Part.planBar (p : Part) (j : Fin 2) (up : Bool) : Option DeferReason :=
  if (p.selectorCfg j).maxSpeed < p.angle.speed then some .speed
  else if !p.headQualifies j up then some .phasers
  else if p.stage.shutdown then some .shutdown
  else none

/-! ## The effective window (R93) -/

/-- The shift of a phaser's window (R93). -/
def Part.windowShift (p : Part) (i : Fin 4) : Int :=
  let c := vget p.phasers i
  match c.state with
  | .tracking | .faulted =>
    match (p.phaserCfg i).direction with
    | .advancing => -c.phase
    | .retarding => c.phase
  | .parked | .unlocking | .holding | .returning => 0

/-- The intersection of the shifted windows [io, ic] and [eo, ec]: its open, when it is not empty (R93). -/
def meetOpen (io ic eo ec : Nat) : Option Nat :=
  if inWindow 7200 io ic eo then some eo
  else if inWindow 7200 eo ec io then some io
  else none

/-- The close of the intersection: the close nearer forward from its open (R93). -/
def meetClose (ic ec wo : Nat) : Nat := if forward wo ic ≤ forward wo ec then ic else ec

/-- The figures of one plan. -/
structure PlanFigures where
  wo     : Nat
  wc     : Nat
  length : Int
  lr     : Nat
  lm     : Nat
  deriving DecidableEq, Repr

/-- Lead or travel angle of a time in µs at the present Pp (R94). -/
def Part.angleOfTime (p : Part) (us : Nat) : Nat := roundHalfUp (us * Config.ticksPerUs * 150) p.angle.pp

/-- The effective window and the lead and travel angles (R93, R94). An empty intersection has length −1; its open is
not stated and is a free value (log 13). -/
def Part.planFigures (p : Part) (j : Fin 2) : PlanFigures :=
  let g := p.selectorCfg j
  let si := p.windowShift (intakeOf j)
  let se := p.windowShift (exhaustOf j)
  let io := angleAdd g.iwOpen si
  let ic := angleAdd g.iwClose si
  let eo := angleAdd g.ewOpen se
  let ec := angleAdd g.ewClose se
  let lr := p.angleOfTime g.tResp
  let lm := p.angleOfTime g.tMove
  match meetOpen io ic eo ec with
  | some wo => { wo := wo, wc := meetClose ic ec wo, length := forward wo (meetClose ic ec wo), lr := lr, lm := lm }
  | none =>
    let wo := Config.emptyWindowOpen p.fresh % 7200
    { wo := wo, wc := meetClose ic ec wo, length := -1, lr := lr, lm := lm }

/-- The first failing test of R94; `ref` is the reference angle. -/
def PlanFigures.infeasible (f : PlanFigures) (margin ref : Nat) : Option DeferReason :=
  if (f.length : Int) < (f.lm : Int) + margin then some .window
  else if forward ref f.wo < f.lr then some .lead
  else none

/-! ## Deferral (R95) -/

/-- The context after a deferral (R95). -/
def SelectorCtx.deferred (reason : DeferReason) (limit : Nat) (c : SelectorCtx) : SelectorCtx :=
  { c with deferReason := reason, deferCount := min (c.deferCount + 1) limit }

/-- One deferral: the context takes it, and a count that reaches defer_limit makes the note (R95). -/
def Part.deferPlan (j : Fin 2) (reason : DeferReason) (p : Part) : Part :=
  let c := vget p.selectors j
  let limit := (p.selectorCfg j).deferLimit
  let p := { p with selectors := vset p.selectors j (c.deferred reason limit) }
  if c.deferCount < limit ∧ c.deferCount + 1 = limit then
    p.note .switchDeferred (selectorUnit j) (detailOf reason.code)
  else p

/-! ## The energise and release matches (R96, R97) -/

/-- The solenoid is switched: the phasers of the head are held and the window match is asked for (R96, R97). The
output's record comes first, then the selector's, then the held phasers' (DESIGN CHOICE, log 60). -/
def Part.beginShift (j : Fin 2) (c : SelectorCtx) (p : Part) : Part :=
  let p := (p.changeSelector j c).holdHead j
  p.requestMatch (closeSlot j) c.wc .cycle

/-- The energise match of an ARMED_UP selector (R96). A late match whose head does not qualify either takes the reason
LATE (DESIGN CHOICE, log 74). A cancel counts its deferral first, so that the record of the state change shows it
(DESIGN CHOICE, log 44), and leaves the last shift cycle as it was (DESIGN CHOICE, log 76). -/
def Part.energiseMatch (j : Fin 2) (late : Bool) (p : Part) : Part :=
  let cancel (reason : DeferReason) : Part :=
    let p := p.deferPlan j reason
    p.changeSelector j { vget p.selectors j with state := .low, lastShiftResult := .cancelled }
  if late then cancel .late
  else if !p.headQualifies j true then cancel .phasers
  else p.beginShift j { vget p.selectors j with state := .shiftingUp, dipSeen := false,
                                                speedAtEnergise := p.angle.speed }

/-- The release match of an ARMED_DOWN selector (R97). LATE comes before PHASERS (DESIGN CHOICE, log 74). A cancel
counts its deferral first (DESIGN CHOICE, log 44) and leaves the last shift cycle as it was (DESIGN CHOICE, log 76). -/
def Part.releaseMatch (j : Fin 2) (late : Bool) (p : Part) : Part :=
  let cancel (reason : DeferReason) : Part :=
    let p := p.deferPlan j reason
    let c := vget p.selectors j
    if c.owedPlan then p.changeSelector j { c with releaseOwed := true, owedPlan := false }
    else p.changeSelector j { c with state := .high, lastShiftResult := .cancelled }
  if late then cancel .late
  else if !p.headQualifies j false then cancel .phasers
  else p.beginShift j { vget p.selectors j with state := .shiftingDown, owedPlan := false }

/-- The action match of a selector (R96, R97). -/
def Part.actionMatch (j : Fin 2) (late : Bool) (p : Part) : Part :=
  match (vget p.selectors j).state with
  | .armedUp => p.energiseMatch j late
  | .armedDown => p.releaseMatch j late
  | .low | .shiftingUp | .high | .shiftingDown | .faulted => p

/-! ## The plan match (R91, R94) -/

/-- A deferred plan at the plan angle, with its record (R87, R95), which follows the note (DESIGN CHOICE, log 45). -/
def Part.deferAtPlan (j : Fin 2) (reason : DeferReason) (p : Part) : Part := (p.deferPlan j reason).writeSelector j

/-- The selector takes a made plan (R94). The record of a plan that changes the state is the state change's (R87;
DESIGN CHOICE, log 69). -/
def Part.takePlan (j : Fin 2) (c : SelectorCtx) (p : Part) : Part :=
  match c.state with
  | .armedDown =>
    { p with selectors := vset p.selectors j { c with releaseOwed := false, owedPlan := true } }.writeSelector j
  | .high => p.changeSelector j { c with state := .armedDown }
  | .low | .armedUp | .shiftingUp | .shiftingDown | .faulted => p.changeSelector j { c with state := .armedUp }

/-- Arm a feasible plan (R94). An action at the reference angle itself is taken as part of the plan match. -/
def Part.armPlan (j : Fin 2) (ref : Nat) (p : Part) : Part :=
  let c := vget p.selectors j
  let action := angleAdd c.wo (-(c.lr : Int))
  let p := p.takePlan j { c with action := action, deferCount := 0 }
  if action = ref then p.actionMatch j false else p.requestMatch (actionSlot j) action .cycle

/-- Plan an upward (`up`) or downward shift; `ref` is the reference angle (R92 to R95). -/
def Part.plan (j : Fin 2) (up : Bool) (ref : Nat) (p : Part) : Part :=
  match p.planBar j up with
  | some reason => p.deferAtPlan j reason
  | none =>
    let f := p.planFigures j
    let c := { vget p.selectors j with wo := f.wo, wc := f.wc, lr := f.lr, lm := f.lm }
    let p := { p with selectors := vset p.selectors j c,
                      fresh := if f.length < 0 then p.fresh + 1 else p.fresh }
    match f.infeasible (p.selectorCfg j).margin ref with
    | some reason => p.deferAtPlan j reason
    | none => p.armPlan j ref

/-- The plan match of selector j (R91). -/
def Part.planMatch (j : Fin 2) (late : Bool) (p : Part) : Part :=
  let angle := (p.selectorCfg j).planAngle
  let p := p.requestMatch (planSlot j) angle .cycle
  let ref := if late then p.angle.a0 else angle
  let c := vget p.selectors j
  let idle (retry : Bool) : Part :=
    { p with selectors := vset p.selectors j { c with deferCount := 0, retry := retry } }
  match c.state, c.requested with
  | .low, .high => p.plan j true ref
  | .low, .low => idle false
  | .high, .low => p.plan j false ref
  | .armedDown, _ => if c.releaseOwed then p.plan j false ref else idle c.retry
  | .high, .high | .armedUp, _ | .shiftingUp, _ | .shiftingDown, _ | .faulted, _ => idle c.retry

/-! ## The window close (R99, R100) -/

/-- The window close of an upward shift (R99). The raise comes before the selector record (DESIGN CHOICE, log 67). -/
def Part.closeUp (j : Fin 2) (p : Part) : Part :=
  let p := p.releaseHead j
  let c := { vget p.selectors j with lastShiftCycle := p.xu.cycle }
  if c.dipSeen then
    p.changeSelector j { c with state := .high, retry := false, lastShiftResult := .confirmed }
  else if c.retry then
    let p := p.raise .selectorUnconfirmed (selectorUnit j) (detailOf c.speedAtEnergise) true
    p.changeSelector j { c with state := .armedDown, releaseOwed := true, faultOnLow := true,
                                lastShiftResult := .unconfirmed }
  else
    p.changeSelector j { c with state := .armedDown, releaseOwed := true, retry := true,
                                lastShiftResult := .unconfirmed }

/-- The window close of a downward shift (R100). The head's release comes before the selector record (DESIGN CHOICE,
log 67). -/
def Part.closeDown (j : Fin 2) (p : Part) : Part :=
  let p := p.releaseHead j
  let c := { vget p.selectors j with lastShiftCycle := p.xu.cycle, lastShiftResult := .released }
  if c.faultOnLow then p.changeSelector j { c with state := .faulted, faultOnLow := false, retry := false }
  else p.changeSelector j { c with state := .low }

/-- The window-close match of a selector, on time or late (R99, R100). -/
def Part.closeMatch (j : Fin 2) (p : Part) : Part :=
  match (vget p.selectors j).state with
  | .shiftingUp => p.closeUp j
  | .shiftingDown => p.closeDown j
  | .low | .armedUp | .high | .armedDown | .faulted => p

/-- A dip report on the selector's output (R98). A dip it takes writes the record (R87). -/
def Part.dipReport (j : Fin 2) (p : Part) : Part :=
  let c := vget p.selectors j
  if c.state = .shiftingUp then
    { p with selectors := vset p.selectors j { c with dipSeen := true } }.writeSelector j
  else p

end Sys2Proof.Machine
end

