-- ==== Sys2Proof/Machine/Lock.lean ====
section
/-! DEFINITION. The sync state: what a change of it does to every block, the mark-window check and the mark, losing
and gaining cycle lock, and the stall (R10 to R14, R20 to R24). -/

namespace Sys2Proof.Machine

/-! ## Requests at entry into CYCLE_LOCKED -/

/-- The selectors ask for their plan matches (R91). -/
def Part.requestPlans (p : Part) : Part :=
  allSelectors.foldl (fun p j => p.requestMatch (planSlot j) (p.selectorCfg j).planAngle .cycle) p

/-- The Exchange Unit asks for the adoption-angle match on slot 22 (R137). -/
def Part.requestAdoption (p : Part) : Part := p.requestMatch 22 p.cfg.adoptionAngle .cycle

/-- The first cycle-angle requests at entry into CYCLE_LOCKED (R21, R30, R91, R137), and the FIRST flag of the next
journal record (R145). -/
def Part.enterCycle (p : Part) : Part :=
  let p := { p with xu.firstJournal := true }
  if p.config.isSome then p.setupPasses.requestPlans.requestAdoption else p

/-- The Angle Unit asks for its mark-window match when the window has Mo ≤ Mc (R6, R12 to R14). -/
def Part.requestMark (p : Part) : Part :=
  match p.angle.window with
  | some w =>
    if w.mo ≤ w.mc then
      p.requestMatch 23 w.mc (if p.angle.sync = .cycleLocked then .cycle else .revolution)
    else p
  | none => p

/-! ## A change of sync state (R20 to R23) -/

/-- What leaving a sync state cancels (R20): the cycle matches on leaving CYCLE_LOCKED, slot 23's revolution match on
leaving CRANK_LOCKED. -/
def Part.cancelOnLeaving (old : Sync) (p : Part) : Part :=
  match old with
  | .cycleLocked => p.cancelKind .cycle
  | .crankLocked => p.cancelKind .revolution
  | .stopped | .seeking => p

/-- The conditions of the sync faults that end with the new state (R23). On entry into STOPPED both may end, SYNC_LOSS
and then CAM_MARK, each with its summary record (DESIGN CHOICE, log 73). -/
def Part.ceaseSync (new : Sync) (p : Part) : Part :=
  match new with
  | .stopped => (p.cease .syncLoss syncUnit).cease .camMark syncUnit
  | .seeking => p
  | .crankLocked => p.cease .syncLoss syncUnit
  | .cycleLocked => p.cease .camMark syncUnit

/-- What leaving CYCLE_LOCKED does in the other blocks (R22). An offer still to be examined at an adoption-angle match
waits for the next standby tick (R137). -/
def Part.leaveCycle (p : Part) : Part := { p.dropPhasers.dropSelectors.clearPasses with xu.examineOwed := 0 }

/-- The sync state changes: every block acts on it (R20 to R23, R117), PORTSTAT follows, SYNC is set and the angle
status record is written (R21). The Angle Unit's other values are set by the rule that changes the state, before. -/
def Part.changeSync (new : Sync) (p : Part) : Part :=
  let old := p.angle.sync
  if old = new then p
  else
    let p := { p with angle.sync := new }
    let p := (p.cancelOnLeaving old).ceaseSync new
    let p := if old = .cycleLocked then p.leaveCycle else p
    let p := if old = .stopped then p.abortProbe else p
    let p := (p.setCause .sync).writeAngle
    if new = .cycleLocked then p.enterCycle else p

/-! ## Marks (R12 to R14) -/

/-- From CYCLE_LOCKED to CRANK_LOCKED on the second anomaly (R14). -/
def Part.loseCycle (p : Part) : Part :=
  let p := { p with angle := { p.angle with
    rev := .unknown, a0 := p.angle.a0 % 3600, markSeen := false, missCount := 0, noMarkRaised := false,
    markedA := false, markInRev := false } }
  (p.changeSync .crankLocked).requestMark

/-- A mark anomaly in CYCLE_LOCKED (R14). -/
def Part.markAnomaly (p : Part) : Part :=
  let p := { p with angle.anomalyCount := min (p.angle.anomalyCount + 1) 2 }
  if p.angle.anomalyCount = 2 then (p.raise .camMark syncUnit (detailOf 1) true).loseCycle else p

/-- A window check in CRANK_LOCKED (R13). -/
def Part.markCheckCrank (p : Part) : Part :=
  if p.angle.markSeen then { p with angle.markSeen := false }
  else
    let p := { p with angle.missCount := min (p.angle.missCount + 1) 8 }
    if p.angle.missCount = 8 ∧ p.angle.noMarkRaised = false then
      { p.raise .camMark syncUnit (detailOf 0) true with angle.noMarkRaised := true }
    else p

/-- A window check (R12 to R14). -/
def Part.markCheck (p : Part) : Part :=
  match p.angle.sync with
  | .crankLocked => p.markCheckCrank
  | .cycleLocked => if p.angle.markSeen then { p with angle.markSeen := false } else p.markAnomaly
  | .stopped | .seeking => p

/-- A mark candidate (R13, R14). -/
def Part.markCandidate (p : Part) : Part :=
  match p.angle.sync with
  | .crankLocked => if p.angle.markedA then p else { p with angle.markSeen := true, angle.markedA := true }
  | .cycleLocked =>
    if p.angle.rev = .a ∧ p.angle.markInRev = false then
      { p with angle.markSeen := true, angle.markInRev := true, angle.anomalyCount := 0 }
    else p.markAnomaly
  | .stopped | .seeking => p

/-- The Angle Unit takes a CAM0 edge (R11, R12). -/
def Part.markEdge (t : Tick) (p : Part) : Part :=
  let q := min (p.angle.edgeOffset t) (p.angle.span - 1)
  if p.angle.locked && p.angle.inMark ((p.angle.a0 + q) % 3600) then p.markCandidate else p

/-- Cycle lock is gained at tooth 0 (R13). -/
def Part.gainCycle (p : Part) : Part :=
  let p := { p with angle.rev := .b, angle.a0 := 3600, angle.anomalyCount := 0 }
  (p.changeSync .cycleLocked).requestMark

/-! ## Stall and loss of crank lock (R7, R10) -/

/-- The stall (R10). -/
def Part.doStall (p : Part) : Part :=
  let p := if p.angle.locked then p.raise .syncLoss syncUnit (detailOf 3) false else p
  let p := { p with angle := { p.angle with
    speed := 0, revTicks := 0, history := [], candidate := none, prev := none, last := none, stall := none,
    rev := .unknown, markSeen := false, markedA := false, missCount := 0, noMarkRaised := false,
    anomalyCount := 0, markInRev := false } }
  p.changeSync .stopped

/-- An interval fails the wheel test (R7): SYNC_LOSS with its detail, and the search begins with that interval. -/
def Part.loseCrank (detail : Nat) (candidate : Option Nat) (p : Part) : Part :=
  let p := p.raise .syncLoss syncUnit (detailOf detail) true
  let p := { p with angle := { p.angle with history := [], candidate := candidate } }
  p.changeSync .seeking

end Sys2Proof.Machine
end

