-- ==== Sys2Proof/Machine/Pages.lean ====
section
/-! DEFINITION. Demand pages: their layout, the clamping of their scalar fields, their structural tests, and the
configuration and targets they carry (Tables 8-4 and 8-5; R126, R139, R141; ranges of Tables 2-7, 3-3, 4-1, 5-3,
6-3). A page is read through a function from page offset to word. -/

namespace Sys2Proof.Machine

/-! ## Layout -/

/-- First word of a demand page (Table 8-1). -/
def pageBase (page : Fin 2) : Nat := 0x100 + 0x100 * page.val

/-- A page offset that Table 8-4 or 8-5 names. -/
def pageNamed (o : Nat) : Bool :=
  decide (o < 0x22) || decide (0x40 ≤ o ∧ o < 0xC0 ∧ (o - 0x40) % 32 < 22) ||
  decide (0xC0 ≤ o ∧ o < 0xE0 ∧ (o - 0xC0) % 16 < 14)

/-- The words of a page. -/
def pageOf (m : Mem) (page : Fin 2) (o : Nat) : Word := m.read (pageBase page + o)

/-! ## Scalar fields -/

/-- How a scalar field of the configuration page is brought into its range (R141). -/
inductive Field where
  /-- Clamped to lo to hi, read as unsigned. -/
  | range (lo hi : Nat)
  /-- Clamped to lo to hi, read as signed. -/
  | signed (lo hi : Int)
  /-- A 0 selects the default; any other value is clamped to lo to hi. -/
  | orDefault (lo hi dflt : Nat)
  /-- A code 0 to max; a value outside is taken as DEFAULT, 0 (R126). -/
  | code (max : Nat)
  /-- mark_open: 65535 selects no mark window, any other value is clamped to 0 to 3599. -/
  | markOpen
  deriving DecidableEq, Repr

/-- The value a field takes. -/
def Field.value (f : Field) (w : Word) : Int :=
  match f with
  | .range lo hi => clampNat lo hi w.toNat
  | .signed lo hi => clampInt lo hi w.toInt
  | .orDefault lo hi dflt => clampNat lo hi (if w.toNat = 0 then dflt else w.toNat)
  | .code max => if w.toNat ≤ max then w.toNat else 0
  | .markOpen => if w.toNat = 65535 then 65535 else clampNat 0 3599 w.toNat

/-- Clamping or defaulting changed the field's value; a 0 that selects a documented default is not counted (R138). A
default that the range of its page clamps is counted (log 25). -/
def Field.changed (f : Field) (w : Word) : Bool :=
  match f with
  | .signed _ _ => decide (f.value w ≠ w.toInt)
  | .orDefault _ _ dflt => decide (f.value w ≠ (if w.toNat = 0 then dflt else w.toNat : Nat))
  | .range _ _ | .code _ | .markOpen => decide (f.value w ≠ (w.toNat : Int))

/-- The scalar fields at 0x02 to 0x21, less hold_pressure (0x0D) and enable_hyst (0x0A), which is tested, not
clamped. -/
def partFields : List (Nat × Field) :=
  [(0x02, .orDefault 20 1000 300), (0x03, .markOpen), (0x04, .range 0 3599), (0x05, .range 0 7199),
   (0x06, .orDefault 50 2000 500), (0x07, .range 0 20000), (0x08, .range 0 20000), (0x09, .range 0 20000),
   (0x0B, .signed (-40) 150), (0x0C, .range 0 1000), (0x0E, .orDefault 150 400 250),
   (0x0F, .code 3), (0x10, .code 3), (0x11, .code 3), (0x12, .code 3), (0x13, .code 2),
   (0x14, .code 2), (0x15, .code 2), (0x16, .code 2), (0x17, .code 2), (0x18, .code 2), (0x19, .code 2),
   (0x1A, .code 2), (0x1B, .code 2), (0x1C, .code 2), (0x1D, .code 2), (0x1E, .code 2), (0x1F, .code 2),
   (0x20, .code 2), (0x21, .code 2)]

/-- The scalar fields of a phaser by offset in its block. The direction (0), unlock_duty (15) and park_duty (16) are
tested, not clamped. -/
def phaserFields : List (Nat × Field) :=
  [(1, .range 100 600), (2, .range 0 7199), (3, .range 0 7199), (4, .range 0 7199), (5, .range 0 7199),
   (6, .range 0 2047), (7, .range 0 255), (8, .range 0 500), (9, .range 0 999), (10, .range 1 1000),
   (11, .range 100 600), (12, .range 0 1000), (13, .range 0 1000), (14, .range 0 1000),
   (17, .orDefault 4 64 24), (18, .orDefault 8 128 48), (19, .range 0 600), (20, .orDefault 20 300 80),
   (21, .orDefault 4 64 16)]

/-- The scalar fields of a selector by offset in its block, less hold_current (13). -/
def selectorFields : List (Nat × Field) :=
  [(0, .range 0 7199), (1, .range 0 7199), (2, .range 0 7199), (3, .range 0 7199), (4, .range 0 7199),
   (5, .orDefault 100 20000 3000), (6, .orDefault 100 10000 1200), (7, .range 0 1000), (8, .range 0 20000),
   (9, .orDefault 0 100 20), (10, .orDefault 20 1500 150), (11, .orDefault 1 255 16),
   (12, .orDefault 200 3000 1600)]

/-- First offset of a phaser's block. -/
def phaserBlock (i : Fin 4) : Nat := 0x40 + 32 * i.val

/-- First offset of a selector's block. -/
def selectorBlock (j : Fin 2) : Nat := 0xC0 + 16 * j.val

/-- The field at an offset of a list, an unsigned word as it stands where the list has none. -/
def fieldAt (fs : List (Nat × Field)) (o : Nat) : Field := (fs.lookup o).getD (.range 0 65535)

/-- The value of the part-wide field at an offset. -/
def partValue (pg : Nat → Word) (o : Nat) : Int := (fieldAt partFields o).value (pg o)

/-- hold_pressure is clamped to 0 to unlock_pressure (R141). -/
def holdPressureField (pg : Nat → Word) : Field := .range 0 (partValue pg 0x0C).toNat

/-- The value of a phaser's field. -/
def phaserValue (pg : Nat → Word) (i : Fin 4) (o : Nat) : Nat :=
  ((fieldAt phaserFields o).value (pg (phaserBlock i + o))).toNat

/-- The value of a selector's field, less hold_current. -/
def selectorValue (pg : Nat → Word) (j : Fin 2) (o : Nat) : Nat :=
  ((fieldAt selectorFields o).value (pg (selectorBlock j + o))).toNat

/-- hold_current is clamped to 50 to peak_current; a 0 selects 500 (Table 5-3, R141). -/
def holdCurrentField (pg : Nat → Word) (j : Fin 2) : Field := .orDefault 50 (selectorValue pg j 12) 500

/-- Every scalar field of a configuration page with its page offset. -/
def allFields (pg : Nat → Word) : List (Nat × Field) :=
  partFields ++ [(0x0D, holdPressureField pg)] ++
  allPhasers.flatMap (fun i => phaserFields.map fun f => (phaserBlock i + f.1, f.2)) ++
  allSelectors.flatMap (fun j => (selectorFields.map fun f => (selectorBlock j + f.1, f.2)) ++
    [(selectorBlock j + 13, holdCurrentField pg j)])

/-- Number of fields whose value clamping or defaulting changed (R138). -/
def clampedFields (pg : Nat → Word) : Nat := ((allFields pg).filter fun f => f.2.changed (pg f.1)).length

/-! ## The configuration of a page -/

/-- A reaction code, with the default DEFAULT selects (Table 7-3). -/
def reactionOf (code : Int) (dflt : Reaction) : Reaction :=
  if code = 1 then .proceed else if code = 2 then .park else if code = 3 then .force else dflt

/-- The kinds on LINE (0 DEFAULT, 1 LINE, 2 NOTE). -/
def lineOf (pg : Nat → Word) : KindSet :=
  allKinds.foldl (fun s k =>
    let code := partValue pg (0x14 + k.code)
    if code = 1 ∨ (code = 0 ∧ defaultLine.has k = true) then KindSet.add s k else s) 0

/-- The mark window of a page. -/
def windowOf (pg : Nat → Word) : Option MarkWindow :=
  if partValue pg 0x03 = 65535 then none
  else some { mo := (partValue pg 0x03).toNat, mc := (partValue pg 0x04).toNat }

/-- The direction of a code: 0 ADVANCING, 1 RETARDING. Any other code refuses the page; the overlap tests of the same
page then meet a free value (log 14). -/
def directionOf (w : Word) : Direction :=
  if w = 0 then .advancing
  else if w = 1 then .retarding
  else if Config.strayDirection w.toNat then .retarding else .advancing

/-- The fields of phaser i. -/
def phaserCfgOf (pg : Nat → Word) (i : Fin 4) : PhaserCfg where
  direction := directionOf (pg (phaserBlock i))
  stroke := phaserValue pg i 1
  nominal := #v[phaserValue pg i 2, phaserValue pg i 3, phaserValue pg i 4, phaserValue pg i 5]
  kp := phaserValue pg i 6
  ki := phaserValue pg i 7
  ilim := phaserValue pg i 8
  dmin := phaserValue pg i 9
  dmax := phaserValue pg i 10
  pnom := phaserValue pg i 11
  holdMin := phaserValue pg i 12
  holdMax := phaserValue pg i 13
  holdDefault := phaserValue pg i 14
  unlockDuty := phaserValue pg i 15
  parkDuty := phaserValue pg i 16
  unlockEdges := phaserValue pg i 17
  returnEdges := phaserValue pg i 18
  slew := phaserValue pg i 19
  trackLimit := phaserValue pg i 20
  trackCount := phaserValue pg i 21

/-- The fields of selector j. -/
def selectorCfgOf (pg : Nat → Word) (j : Fin 2) : SelectorCfg where
  iwOpen := selectorValue pg j 0
  iwClose := selectorValue pg j 1
  ewOpen := selectorValue pg j 2
  ewClose := selectorValue pg j 3
  planAngle := selectorValue pg j 4
  tResp := selectorValue pg j 5
  tMove := selectorValue pg j 6
  margin := selectorValue pg j 7
  maxSpeed := selectorValue pg j 8
  settleTol := selectorValue pg j 9
  dipThreshold := selectorValue pg j 10
  deferLimit := selectorValue pg j 11
  peakCurrent := selectorValue pg j 12
  holdCurrent := ((holdCurrentField pg j).value (pg (selectorBlock j + 13))).toNat

/-- The configuration of a page, every scalar clamped (R141). -/
def configOf (pg : Nat → Word) : Configuration where
  stallMs := (partValue pg 0x02).toNat
  window := windowOf pg
  adoptionAngle := (partValue pg 0x05).toNat
  staleMs := (partValue pg 0x06).toNat
  learnMin := (partValue pg 0x07).toNat
  learnMax := (partValue pg 0x08).toNat
  enableSpeed := (partValue pg 0x09).toNat
  enableHyst := (partValue pg 0x0A).toNat
  enableTemp := partValue pg 0x0B
  unlockPressure := (partValue pg 0x0C).toNat
  holdPressure := ((holdPressureField pg).value (pg 0x0D)).toNat
  pwmFreq := (partValue pg 0x0E).toNat
  onOpenLoad := reactionOf (partValue pg 0x0F) .park
  onImplausible := reactionOf (partValue pg 0x10) .force
  onTracking := reactionOf (partValue pg 0x11) .proceed
  onDrift := reactionOf (partValue pg 0x12) .proceed
  selfClearing := decide (partValue pg 0x13 ≠ 1)
  line := lineOf pg
  phasers := #v[phaserCfgOf pg 0, phaserCfgOf pg 1, phaserCfgOf pg 2, phaserCfgOf pg 3]
  selectors := #v[selectorCfgOf pg 0, selectorCfgOf pg 1]

/-! ## Structural tests -/

/-- Two widened windows of one phaser overlap (R141). -/
def PhaserCfg.windowsMeet (g : PhaserCfg) (k l : Fin 4) : Bool :=
  arcsMeet 7200 (g.wideOpen k) g.wideLength (g.wideOpen l) g.wideLength

/-- A widened window overlaps the mark window modulo 3600 (R29, R141). -/
def PhaserCfg.meetsMark (g : PhaserCfg) (w : MarkWindow) (k : Fin 4) : Bool :=
  arcsMeet 3600 (g.wideOpen k % 3600) g.wideLength w.mo (forwardIn 3600 w.mo w.mc)

/-- The failing tests of a phaser, by page offset. The later of two windows is the one with the greater k (log 31). -/
def phaserFailures (pg : Nat → Word) (i : Fin 4) : List Nat :=
  let g := phaserCfgOf pg i
  let b := phaserBlock i
  (if pg b ≠ 0 ∧ pg b ≠ 1 then [b] else []) ++
  (if g.dmax ≤ g.dmin then [b + 10] else []) ++
  (if g.dmax < g.unlockDuty then [b + 15] else []) ++
  (if g.dmin < g.parkDuty then [b + 16] else []) ++
  (if g.holdMax < g.holdMin then [b + 13] else []) ++
  (allPhasers.filter (fun l => allPhasers.any fun k => decide (k < l) && g.windowsMeet k l)).map (b + 2 + ·.val)

/-- The failing tests of a selector, by page offset: a window of length 3600 or more. -/
def selectorFailures (pg : Nat → Word) (j : Fin 2) : List Nat :=
  let g := selectorCfgOf pg j
  let b := selectorBlock j
  (if 3600 ≤ forward g.iwOpen g.iwClose then [b + 1] else []) ++
  (if 3600 ≤ forward g.ewOpen g.ewClose then [b + 3] else [])

/-- The failing tests of a configuration page, by page offset (R141). -/
def configFailures (pg : Nat → Word) : List Nat :=
  let c := configOf pg
  (if c.enableSpeed < c.enableHyst then [0x0A] else []) ++
  (match c.window with
   | some w => if allPhasers.any (fun k => (phaserCfgOf pg 0).meetsMark w k) then [0x03] else []
   | none => []) ++
  allPhasers.flatMap (phaserFailures pg) ++ allSelectors.flatMap (selectorFailures pg)

/-- The words a targets page must hold 0 or 1 in (R139): prompt, enables, freezes, lobes. -/
def targetsFlags : List Nat := [0x02, 0x04, 0x06, 0x07, 0x09, 0x0A, 0x0C, 0x0D, 0x0F, 0x10, 0x11]

/-- The failing tests of a targets page, by page offset (R139). -/
def targetsFailures (pg : Nat → Word) : List Nat := targetsFlags.filter fun o => decide (pg o ≠ 0 ∧ pg o ≠ 1)

/-- The lowest offset of a list of failures. -/
def lowestFailure : List Nat → Option Nat
  | [] => none
  | o :: os =>
    match lowestFailure os with
    | none => some o
    | some l => some (min o l)

/-! ## Targets -/

/-- A target as written (Table 8-4). -/
def targetWritten (pg : Nat → Word) (i : Fin 4) : Int := (pg (0x05 + 3 * i.val)).toInt

/-- A target clamped to 0 to the stroke (R139). -/
def targetClamped (pg : Nat → Word) (stroke : Nat) (i : Fin 4) : Nat := (clampInt 0 stroke (targetWritten pg i)).toNat

/-- The clamp changed the target (R139). -/
def targetChanged (pg : Nat → Word) (stroke : Nat) (i : Fin 4) : Bool :=
  decide ((targetClamped pg stroke i : Int) ≠ targetWritten pg i)

/-- The demand a page gives phaser i (R140). -/
def demandOf (pg : Nat → Word) (stroke : Nat) (i : Fin 4) : Demand :=
  { enable := decide (pg (0x04 + 3 * i.val) = 1), target := targetClamped pg stroke i,
    freeze := decide (pg (0x06 + 3 * i.val) = 1) }

/-- The lobe a page asks of selector j (Table 8-4). -/
def lobeOf (pg : Nat → Word) (j : Fin 2) : Lobe := if pg (0x10 + j.val) = 1 then .high else .low

end Sys2Proof.Machine
end

