-- ==== Sys2Proof/Machine/Adoption.lean ====
section
/-! DEFINITION. Answering an offer: the verdict, what an adopted targets or configuration page does in every unit, and
the clear-faults mask (R24, R44, R49, R83, R89, R90, R131, R133, R137 to R142). -/

namespace Sys2Proof.Machine

/-! ## Targets pages (R139, R140, R90) -/

/-- A selector takes the requested lobe (R90). The record shows a change of the request (R87), and a cancel that comes
with it is the same record's (DESIGN CHOICE, log 69). A cancel leaves the last shift cycle as it was (DESIGN CHOICE, log
76). -/
def Part.requestLobe (j : Fin 2) (lobe : Lobe) (p : Part) : Part :=
  let c := vget p.selectors j
  if c.requested = lobe then p
  else
    let c := { c with requested := lobe }
    match c.state, lobe with
    | .armedUp, .low =>
      (p.cancelMatch (actionSlot j)).changeSelector j
        { c with state := .low, lastShiftResult := .cancelled, deferCount := 0 }
    | .armedDown, .high =>
      if c.releaseOwed = false ∧ c.owedPlan = false then
        (p.cancelMatch (actionSlot j)).changeSelector j
          { c with state := .high, lastShiftResult := .cancelled, deferCount := 0 }
      else { p with selectors := vset p.selectors j c }.writeSelector j
    | _, _ => { p with selectors := vset p.selectors j c }.writeSelector j

/-- An adopted targets page (R139, R140): the demands with their notes, the lobes of FS and then of RS, the probe, in
this order (DESIGN CHOICE, log 52). -/
def Part.adoptTargets (pg : Nat → Word) (p : Part) : Part :=
  let p := allPhasers.foldl (fun p i =>
    let stroke := (p.phaserCfg i).stroke
    let p := { p with demand := vset p.demand i (demandOf pg stroke i) }
    if targetChanged pg stroke i then p.note .targetClamped (phaserUnit i) (detailOf (targetWritten pg i)) else p) p
  let p := allSelectors.foldl (fun p j => p.requestLobe j (lobeOf pg j)) p
  p.askProbe (pg 0x03)

/-! ## Configuration pages (R142) -/

/-- The Angle Unit takes the stall time and the mark window (R24). -/
def Part.adoptAngle (w : Option MarkWindow) (p : Part) : Part :=
  let p :=
    if p.angle.locked then { p with angle.newWindow := some w }
    else { p with angle.window := w, angle.newWindow := none }
  match p.angle.stall, p.angle.last with
  | some _, some last =>
    let p := { p with angle.stall := some (later last p.stallTicks) }
    if p.stallTicks < elapsed p.clock last then p.doStall else p
  | _, _ => p

/-- The Cam Edge Unit at a configuration adoption (R44). The conditions end phaser by phaser, PHASE_IMPLAUSIBLE before
REFERENCE_DRIFT, before any match is cancelled (DESIGN CHOICE, log 55). -/
def Part.adoptCams (p : Part) : Part :=
  let p := allPhasers.foldl (fun p i =>
    let c := { vget p.cams i with anomaly := 0, misses := 0, strays := 0, confirm := 0, drift := 0 }
    let p := { p with cams := vset p.cams i c }
    (p.cease .phaseImplausible (phaserUnit i)).cease .referenceDrift (phaserUnit i)) p
  if p.angle.sync = .cycleLocked then
    (allPhasers.foldl (fun p i => allPhasers.foldl (fun p k => p.cancelMatch (windowSlot i k)) p) p).setupPasses
  else p

/-- One hold-table entry at a configuration adoption (R83). -/
def adoptedHold (g : PhaserCfg) (e : HoldEntry) : HoldEntry :=
  { e with value := clampNat g.holdMin g.holdMax (if e.count = 0 then g.holdDefault else e.value) }

/-- The hold table of phaser i at a configuration adoption; each changed entry is written as a record (R83), the bands
in index order (DESIGN CHOICE, log 59). -/
def Part.adoptHolds (i : Fin 4) (p : Part) : Part :=
  allBands.foldl (fun p b =>
    let n := holdIndex i b.val
    let e := vget p.holdTable n
    let e' := adoptedHold (p.phaserCfg i) e
    if e = e' then p else { p with holdTable := vset p.holdTable n e' }.writeHold n) p

/-- The context of phaser i at a configuration adoption (R49, R77). -/
def PhaserCtx.adopt (stroke : Nat) (c : PhaserCtx) : PhaserCtx :=
  { c with ta := min c.ta stroke, tr := min c.tr stroke, edges := 0, run := 0, track := 0, recov := 0, integ := 0,
           settle := 0 }

/-- The Phase Control Unit at a configuration adoption (R49, R83). R49 and R83 are taken together for one phaser, and
then for the next: its context, the ends of TRACKING_ERROR and OIL_LOW, its hold entries (DESIGN CHOICE, log 59). -/
def Part.adoptPhasers (p : Part) : Part :=
  allPhasers.foldl (fun p i =>
    let stroke := (p.phaserCfg i).stroke
    let d := vget p.demand i
    let p := { p with demand := vset p.demand i { d with target := min d.target stroke },
                      phasers := vset p.phasers i ((vget p.phasers i).adopt stroke) }
    let p := (p.cease .trackingError (phaserUnit i)).cease .oilLow (phaserUnit i)
    p.adoptHolds i) p

/-- A selector's context at a configuration adoption (R89). -/
def SelectorCtx.adopt (c : SelectorCtx) : SelectorCtx :=
  { c with deferCount := 0, deferReason := .none, retry := false, releaseOwed := false, owedPlan := false,
           faultOnLow := false }

/-- The Lobe Selector Unit at a configuration adoption (R89). -/
def Part.adoptSelectors (p : Part) : Part :=
  allSelectors.foldl (fun p j =>
    let p := { p with selectors := vset p.selectors j (vget p.selectors j).adopt }
    if p.angle.sync = .cycleLocked then
      (p.cancelMatch (planSlot j)).requestMatch (planSlot j) (p.selectorCfg j).planAngle .cycle
    else p) p

/-- The kinds of a set that stay latched at a configuration adoption (R133). -/
def Configuration.keepLatched (c : Configuration) (latched present : KindSet) : KindSet :=
  allKinds.foldl (fun s k => if c.clearsItself k && !present.has k then KindSet.drop s k else s) latched

/-- The Fault Unit at a configuration adoption (R133). The settings in force are the active configuration's. -/
def Part.adoptFaults (p : Part) : Part :=
  let p := allUnits.foldl (fun p u =>
    { p with latched := vset p.latched u (p.cfg.keepLatched (vget p.latched u) (vget p.present u)) }) p
  p.writeSummary.judgeReleases

/-- An adopted configuration page: every unit acts in the order R142 lists (log 11). The Output Driver Unit reads the
new pwm_freq at each channel's next period (R107). -/
def Part.adoptConfig (c : Configuration) (p : Part) : Part :=
  let p := { p with config := some c }
  let p := (p.adoptAngle c.window).adoptCams.adoptPhasers.adoptSelectors.adoptFaults
  p.requestAdoption

/-! ## The clear-faults mask (R131) -/

/-- Clear one kind on one unit, or keep it with a CLEAR_KEPT note (R131). -/
def Part.clearOne (k : Kind) (u : Unit15) (p : Part) : Part :=
  if !p.isLatched k u then p
  else if p.isPresent k u then p.note .clearKept u (detailOf k.code)
  else p.unlatch k u

/-- A cleared OVER_CURRENT reaches the output: tripped is cleared and the stored request applied (R114). -/
def Part.untrip (n : Fin 6) (p : Part) : Part :=
  let c := vget p.channels n
  if c.tripped ∧ p.isLatched .overCurrent (outputUnit n) = false then
    (p.putChannel n { c with tripped := false }).applyRequest n
  else p

/-- Take a page's clear-faults mask (R131). The outputs whose OVER_CURRENT is cleared are taken in index order (DESIGN
CHOICE, log 68). -/
def Part.clearFaults (mask : Word) (p : Part) : Part :=
  let p := allKinds.foldl (fun p k =>
    if bitOf mask k.code then allUnits.foldl (fun p u => p.clearOne k u) p else p) p
  (allOutputs.foldl (fun p n => p.untrip n) p.writeSummary).judgeReleases

/-! ## The verdict (R138) -/

/-- Answer the pending offer with a verdict: the verdict record, the page released, VERDICT set (R138, log 5). -/
def Part.answer (seq : BitVec 15) (v : Verdict) (detail : Word) (p : Part) : Part :=
  let p := { p with xu.adoptedSeq := seq, xu.verdict := v, xu.verdictDetail := detail, xu.offer := none }
  p.writeVerdict.setCause .verdict

/-- The judgement of a page: the verdict, its detail, and whether it is adopted (R138). -/
def Part.judgePage (p : Part) (pg : Nat → Word) : Verdict × Word :=
  let adopted (count : Nat) : Verdict × Word :=
    if count = 0 then (.adopted, 0) else (.adoptedClamped, wordOfNat count)
  if pg 0 = 1 then
    if !p.standby then (.refusedBusy, 0)
    else match lowestFailure (configFailures pg) with
      | some o => (.refusedInvalid, wordOfNat o)
      | none => adopted (clampedFields pg)
  else if pg 0 = 2 then
    if p.config.isNone then (.refusedUnconfigured, 0)
    else match lowestFailure (targetsFailures pg) with
      | some o => (.refusedInvalid, wordOfNat o)
      | none => adopted (allPhasers.filter fun i => targetChanged pg (p.phaserCfg i).stroke i).length
  else (.refusedKind, pg 0)

/-- The page is adopted. -/
def Verdict.takes : Verdict → Bool
  | .adopted | .adoptedClamped => true
  | _ => false

/-- Judge and answer an offer (R138): an adopted page's effects, then its clear-faults mask, then the verdict. -/
def Part.answerOffer (m : Mem) (o : Offer) (p : Part) : Part :=
  let pg := pageOf m o.page
  let (v, detail) := p.judgePage pg
  let p :=
    if v.takes then
      (if pg 0 = 1 then p.adoptConfig (configOf pg) else p.adoptTargets pg).clearFaults (pg 1)
    else p
  p.answer o.seq v detail

/-- An adoption point (R137): a pending offer is answered. -/
def Part.adoptionPoint (m : Mem) (p : Part) : Part :=
  match p.xu.offer with
  | some o => p.answerOffer m o
  | none => p

end Sys2Proof.Machine
end

