-- ==== Sys2Proof/Machine/Drive.lean ====
section
/-! DEFINITION. The events of the output stage: periods and on-times, current checks, the dip detector, open load,
over-current, the end of a probe, stage temperature and discharge (R107 to R120). -/

namespace Sys2Proof.Machine

/-- A measured current, clamped to 0 to 3000 mA (R108, R110). -/
def measuredCurrent (mean : Int) : Nat := (clampInt 0 3000 mean).toNat

/-- The open-load condition of an output ends (R113). -/
def Part.endOpenLoad (n : Fin 6) (p : Part) : Part :=
  let c := { vget p.channels n with openLoad := .none, openCount := 0, goodCount := 0 }
  (p.putChannel n c).cease .openLoad (outputUnit n)

/-- Judge a measurement against its threshold (R112, R113); `which` is the detail's first word (Table 9-3). -/
def Part.judgeLoad (n : Fin 6) (threshold which : Nat) (p : Part) : Part :=
  let c := vget p.channels n
  let low := decide (c.measured < threshold)
  if c.openLoad = .none then
    let count := if low then min (c.openCount + 1) 3 else 0
    if count = 3 then
      (p.putChannel n { c with openCount := 3, openLoad := .active }).raise .openLoad (outputUnit n)
        (detailOf2 which c.measured) true
    else { p with channels := vset p.channels n { c with openCount := count } }
  else if low then { p with channels := vset p.channels n { c with goodCount := 0 } }
  else if c.goodCount + 1 < 3 then { p with channels := vset p.channels n { c with goodCount := c.goodCount + 1 } }
  else p.endOpenLoad n

/-- A period of a valve channel starts with the duty in force (R107). A channel in OFF has no periods. -/
def Part.periodStart (n : Fin 6) (p : Part) : Part :=
  let c := vget p.channels n
  match c.mode, c.request with
  | .pwm, .duty d => p.startPeriod n d
  | _, _ => p

/-- An on-time ends (R108). One shorter than 800 ticks is measured and not judged. -/
def Part.onTimeEnd (n : Fin 6) (mean : Int) (p : Part) : Part :=
  let c := vget p.channels n
  if c.mode = .pwm ∧ c.onActive = true then
    let p := { p with channels := vset p.channels n { c with measured := measuredCurrent mean, onActive := false } }
    if c.onTicks < 800 then p else p.judgeLoad n 40 0
  else p

/-- A current check of a selector output (R110). The first after entry into PEAK is not judged. -/
def Part.currentCheck (n : Fin 6) (mean : Int) (p : Part) : Part :=
  let c := vget p.channels n
  let q := { p with channels := vset p.channels n { c with measured := measuredCurrent mean, firstCheck := false } }
  match c.mode with
  | .peak => if c.firstCheck then q else q.judgeLoad n 200 1
  | .hold => q.judgeLoad n 60 2
  | .off | .pwm | .probe => p

/-- The peak timer expires (R109): HOLD at hold_current, both counts 0 (R112). -/
def Part.peakEnd (n : Fin 6) (p : Part) : Part :=
  let c := vget p.channels n
  match c.mode, c.request with
  | .peak, .energise _ hold _ _ =>
    p.putChannel n { c with mode := .hold, level := hold, openCount := 0, goodCount := 0, firstCheck := false }
  | _, _ => p

/-- A current sample in PEAK (R111), within the range of the running maximum (Table 6-1; log 17). -/
def Part.dipSample (j : Fin 2) (sample : Int) (p : Part) : Part :=
  let n := selectorOutput j
  let c := vget p.channels n
  match c.mode, c.request with
  | .peak, .energise _ _ dip _ =>
    let x := measuredCurrent sample
    let top := max c.runMax x
    let dips := decide (x + dip ≤ top) && !c.dipReported
    let p := { p with channels := vset p.channels n { c with runMax := top, dipReported := c.dipReported || dips } }
    if dips then p.dipReport j else p
  | _, _ => p

/-- The instantaneous current of an output is over-current (R114; log 37). -/
def Channel.isOver (c : Channel) (current : Nat) : Bool :=
  match c.mode, c.request with
  | .pwm, _ => c.onActive && decide (2500 < current)
  | .peak, .energise peak _ _ _ | .hold, .energise peak _ _ _ => decide (peak + 400 < current)
  | _, _ => false

/-- An over-current (R114): the channel goes to OFF, is tripped, and OVER_CURRENT is raised with the mode and the level
applied. OFF and tripped are one change, and an ACTIVE open load ends before the raise (DESIGN CHOICE, log 66). -/
def Part.overCurrent (n : Fin 6) (current : Nat) (p : Part) : Part :=
  let c := vget p.channels n
  if c.isOver current then
    let p := p.putChannel n { c.toOff with tripped := true }
    let p := if c.openLoad = .active then p.cease .openLoad (outputUnit n) else p
    p.raise .overCurrent (outputUnit n) (detailOf2 c.mode.code c.level) false
  else p

/-- An OPEN result (R116): PASSIVE, raised when OPEN_LOAD was not present. -/
def Part.probeOpen (n : Fin 6) (p : Part) : Part :=
  let c := vget p.channels n
  let p := p.putChannel n { c with probeResult := .opened, openLoad := .passive }
  if c.openLoad = .none then p.raise .openLoad (outputUnit n) (detailOf2 3 0) true else p

/-- An OK result (R116): it ends any open-load condition (R113). -/
def Part.probeOk (n : Fin 6) (p : Part) : Part :=
  let c := vget p.channels n
  let p := p.putChannel n { c with probeResult := .ok }
  if c.openLoad = .none then p else p.endOpenLoad n

/-- A judged channel returns from PROBE to OFF, or to its stored request (R116, R106). -/
def Part.leaveProbe (n : Fin 6) (p : Part) : Part :=
  let c := vget p.channels n
  if c.mode = .probe then (p.putChannel n c.toOff).applyRequest n else p

/-- The end of an output's 20 ms (R116): the result is taken with what it does to the open load (log 41), then the
channel leaves PROBE, then the next output follows. -/
def Part.probeEnd (carried : Bool) (p : Part) : Part :=
  match p.stage.probe with
  | none => p
  | some n => ((if carried then p.probeOk n else p.probeOpen n).leaveProbe n).probeNext

/-- The warning condition at a sample (R118). -/
def Part.judgeWarning (temp : Int) (p : Part) : Part :=
  if p.stage.warning = false ∧ 140 ≤ temp then
    (p.putStage { p.stage with warning := true }).raise .driverWarn stageUnit (detailOf temp) true
  else if p.stage.warning = true ∧ temp < 130 then
    (p.putStage { p.stage with warning := false }).cease .driverWarn stageUnit
  else p

/-- The shutdown condition at a sample (R119): the outputs, the reports to the owners (R66, R103), the raise; or the
recovery. The phasers are dropped before the selectors, and the shift matches are cancelled after both (DESIGN CHOICE,
log 61); the recovery ends the condition before the outputs apply their requests (DESIGN CHOICE, log 66). -/
def Part.judgeShutdown (temp : Int) (p : Part) : Part :=
  if p.stage.shutdown = false ∧ 170 ≤ temp then
    let p := (p.putStage { p.stage with shutdown := true }).allOff.abortProbe
    let p := (p.dropPhasers.dropSelectors.cancelShift 0).cancelShift 1
    p.raise .driverShutdown stageUnit (detailOf temp) true
  else if p.stage.shutdown = true ∧ temp < 155 then
    ((p.putStage { p.stage with shutdown := false }).cease .driverShutdown stageUnit).applyAll
  else p

/-- A stage temperature sample (R118, R119), within the sensor's range (Table 6-2; log 17). The warning is judged
before the shutdown (DESIGN CHOICE, log 48). -/
def Part.temperatureSample (temp : Int) (p : Part) : Part :=
  let t := clampInt (-40) 200 temp
  ({ p with stage.temp := t }.judgeWarning t).judgeShutdown t

/-- The discharge request (R120): discharge is set, every channel goes to OFF and a probe is aborted. -/
def Part.startDischarge (p : Part) : Part := (p.putStage { p.stage with discharge := true }).allOff.abortProbe

/-- The discharge request is withdrawn (R120): each channel applies its stored request. -/
def Part.withdrawDischarge (p : Part) : Part := (p.putStage { p.stage with discharge := false }).applyAll

/-- Every output carries less than 10 mA (R120). -/
def discharged (currents : Vector Nat 6) : Bool := allOutputs.all fun n => decide (vget currents n < 10)

end Sys2Proof.Machine
end

