-- ==== Sys2Proof/Machine/Port.lean ====
section
/-! DEFINITION. The host port: what a write and a read do (R134, R136, R147, R148, R151 to R155), and the writing of
records word by word (R150). -/

namespace Sys2Proof.Machine

/-! ## Stores -/

/-- A host write is stored (R134); a record that waits takes it too (log 6). -/
def State.hostStore (a : Nat) (v : Word) (s : State) : State :=
  { s with mem := s.mem.write a v, part.xu.records := s.part.xu.records.map (Record.amend a v) }

/-- A protected write: ignored, PROTECTED_WRITE set (R134). -/
def State.protectedWrite (s : State) : State := { s with part.xu.protectedWrite := true }

/-! ## Offers (R136) -/

/-- The page an offer word names: bit 15 (Table 8-2). -/
def offerPage (v : Word) : Fin 2 := if bitOf v 15 then 1 else 0

/-- The sequence of an offer word: bits 14 to 0. -/
def offerSeq (v : Word) : BitVec 15 := v.setWidth 15

/-- An offer word of a page and a sequence. -/
def offerWord (page : Fin 2) (seq : BitVec 15) : Word := wordOfNat (32768 * page.val + seq.toNat)

/-- A new offer of a page is prompt (R136): its kind word is TARGETS and its prompt word is 1. -/
def promptOf (pg : Nat → Word) : Bool := decide (pg 0x00 = 2 ∧ pg 0x02 = 1)

/-- First word of a demand page (Table 8-1). -/
def heldBase (page : Fin 2) : Nat := 0x100 + 0x100 * page.val

/-- A pending offer is superseded or withdrawn: its sequence goes to LAST_DROPPED (R136). -/
def Part.dropOffer (p : Part) : Part :=
  match p.xu.offer with
  | some o => { p with xu.lastDropped := o.seq, xu.offer := none }.writeVerdict
  | none => p

/-- A write to the offer word (R136). -/
def State.writeOffer (v : Word) (s : State) : State :=
  if offerSeq v = offerSeq (s.mem.read 0x002) then s
  else
    let s := { s.hostStore 0x002 v with part := s.part.dropOffer }
    if offerSeq v = 0 then s
    else
      let page := offerPage v
      let o : Offer := { page := page, seq := offerSeq v, prompt := promptOf fun x => s.mem.read (heldBase page + x) }
      { s with part.xu.offer := some o }

/-! ## Notes, snapshot control, learned tables (R147, R148, R40, R84) -/

/-- A write to the state word of note m (R147). -/
def State.writeNoteState (m : Fin 16) (v : Word) (s : State) : State :=
  if v ≠ 0 then s.protectedWrite
  else
    let n := vget s.part.xu.notes m
    if n.filled then
      let s := s.hostStore (RecordKind.note m).base 0
      { s with part.xu.notes := vset s.part.xu.notes m { n with filled := false }, part.xu.notesWithheld := false }
    else s

/-- The captured snapshot is released as soon as it is READY (R149; log 30). -/
def Record.release (r : Record) : Record := if r.kind = .snapshot then { r with released := true } else r

/-- A write to snapshot control (R148): 0 FREE, 1 PENDING, 2 READY. A 0 written after the capture was taken and before
its record is complete releases the word once it is READY (R149; log 30). -/
def State.writeSnapshot (v : Word) (s : State) : State :=
  let ctl := s.mem.read 0x00C
  if v = 1 then (if ctl = 0 then s.hostStore 0x00C 1 else s)
  else if v = 0 then
    if ctl = 0 then s
    else if ctl = 2 then s.hostStore 0x00C 0
    else if s.part.snapshotUnderWay then { s with part.xu.records := s.part.xu.records.map Record.release }
    else s.hostStore 0x00C 0
  else s.protectedWrite

/-- The learned tables may be written (R134): in STANDBY with sync STOPPED. -/
def Part.learnedOpen (p : Part) : Bool := p.standby && decide (p.angle.sync = .stopped)

/-- A word written to a reference entry (R40, R154). -/
def RefEntry.written (odd : Bool) (v : Word) (e : RefEntry) : RefEntry :=
  if odd then { e with count := min v.toNat 255 } else { e with offset := clampInt (-40) 40 v.toInt }

/-- A word written to a hold entry of a phaser (R84, R154). With no configuration active the range is 0 to 1000. -/
def HoldEntry.written (g : PhaserCfg) (odd : Bool) (v : Word) (e : HoldEntry) : HoldEntry :=
  if odd then { e with count := min v.toNat 255 } else { e with value := clampNat g.holdMin g.holdMax v.toNat }

/-- A write to word 0xA00 + off of the learned tables (Table 10-2, R154). Words no entry has are protected. -/
def State.writeLearned (off : Nat) (v : Word) (s : State) : State :=
  let odd := decide (off % 2 = 1)
  if !s.part.learnedOpen then s.protectedWrite
  else if off < 0x20 then
    let n : Fin 16 := ⟨off / 2 % 16, by omega⟩
    let e := (vget s.part.refTable n).written odd v
    let s := { s with part.refTable := vset s.part.refTable n e }
    s.hostStore (0xA00 + off) (e.words.getD (off % 2) 0)
  else if 0x40 ≤ off ∧ off < 0x80 then
    let n : Fin 32 := ⟨(off - 0x40) / 2 % 32, by omega⟩
    let i : Fin 4 := ⟨n.val / 8, by omega⟩
    let e := (vget s.part.holdTable n).written (s.part.phaserCfg i) odd v
    let s := { s with part.holdTable := vset s.part.holdTable n e }
    s.hostStore (0xA00 + off) (e.words.getD (off % 2) 0)
  else s.protectedWrite

/-! ## Registers (R151, R153, R154, R155) -/

/-- The first failing condition of R155 as the RETAIN_REFUSED detail. -/
def Part.retainRefusal (p : Part) : Option Nat :=
  if p.angle.sync ≠ .stopped then some 0
  else if !p.standby then some 1
  else if p.stage.probe.isSome then some 2
  else none

/-- A retention request (R155). -/
def Part.requestRetention (p : Part) : Part :=
  match p.retainRefusal with
  | some why => (p.setCause .retainRefused).note .retainRefused stageUnit (detailOf why)
  | none => { p with power.state := .entering }.startDischarge

/-- A write to PORTCTL (R153, R155). What is written to a bit without a name is not kept (DESIGN CHOICE, log 72). -/
def Part.writePortctl (v : Word) (p : Part) : Part :=
  let p := { p with xu.haltLearn := bitOf v 1 }
  if bitOf v 0 ∧ p.power.state = .run then p.requestRetention else p

/-- A write to a register (Table 10-1, R152). PORTSTAT takes bit 2 alone (log 20); IDENT, CYCLE and FLTSTAT are
read-only. What is written to a bit that Table 10-1 does not name is not kept (DESIGN CHOICE, log 72). -/
def Part.writeRegister (reg : Fin 8) (v : Word) (p : Part) : Part :=
  match reg with
  | 1 => p.writePortctl v
  | 2 => if bitOf v 2 then { p with xu.protectedWrite := false } else p
  | 3 => { p with xu.attn := p.xu.attn &&& ~~~(v.setWidth 8) }
  | 4 => { p with xu.attnen := v.setWidth 8 }
  | 6 => { p with power.waketime := v }
  | 0 | 5 | 7 => { p with xu.protectedWrite := true }

/-! ## The decision on a write (R134, R152) -/

/-- An unassigned word (Table 8-1). -/
def unassigned (a : Nat) : Bool := decide ((0x07E ≤ a ∧ a < 0x100) ∨ (0xB40 ≤ a ∧ a < 0xFF8))

/-- Plain words the host may write: conditions words, extremes items (not their last two words, log 22), scratch, and
the named words of a page that is not held (Table 8-1, R134). -/
def Part.plainWritable (p : Part) (a : Nat) : Bool :=
  decide (0x008 ≤ a ∧ a ≤ 0x00A) || decide (0x040 ≤ a ∧ a < 0x060 ∧ a % 8 < 6) || decide (0xB00 ≤ a ∧ a < 0xB40) ||
  (decide (0x100 ≤ a ∧ a < 0x200) && pageNamed (a - 0x100) && decide (p.heldPage ≠ some 0)) ||
  (decide (0x200 ≤ a ∧ a < 0x300) && pageNamed (a - 0x200) && decide (p.heldPage ≠ some 1))

/-- The Exchange Unit decides a host write to an exchange-memory word (R134). -/
def State.decideWrite (a : Nat) (v : Word) (s : State) : State :=
  if unassigned a then s
  else if a = 0x002 then s.writeOffer v
  else if a = 0x00C then s.writeSnapshot v
  else if 0x400 ≤ a ∧ a < 0x500 ∧ a % 16 = 0 then s.writeNoteState ⟨(a - 0x400) / 16 % 16, by omega⟩ v
  else if 0xA00 ≤ a ∧ a < 0xB00 then s.writeLearned (a - 0xA00) v
  else if s.part.plainWritable a then s.hostStore a v
  else s.protectedWrite

/-- A word of the record the Exchange Unit is writing (R150). -/
def Part.inWriting (p : Part) (a : Nat) : Bool :=
  match p.xu.records with
  | r :: _ => r.kind.covers a
  | [] => false

/-- A host write access (R152). On a closed port it does nothing. A write to a word of the record being written is
held with WAIT. A new access begins only when the one before has ended (log 7). -/
def State.portWrite (a : Nat) (v : Word) (s : State) : State :=
  if !s.part.portOpen then s
  else if 0xFF8 ≤ a then
    { s with held := none, part := s.part.writeRegister ⟨(a - 0xFF8) % 8, by omega⟩ v }
  else if s.part.inWriting a then { s with held := some (.write (BitVec.ofNat 12 a) v) }
  else { s with held := none }.decideWrite a v

/-- A host read access (R152), begun from outside: the table has no row for it (log 70). On a closed port it returns 0.
A read of a word of the record being written is held with WAIT and returns nothing yet. A new access begins only when
the one before has ended (log 7). -/
def State.portRead (a : Addr) (s : State) : State :=
  if !s.part.portOpen then { s with readData := some 0 }
  else if 0xFF8 ≤ a.toNat then
    { s with held := none, readData := some (s.part.register ⟨(a.toNat - 0xFF8) % 8, by omega⟩) }
  else if s.part.inWriting a.toNat then { s with held := some (.read a), readData := none }
  else { s with held := none, readData := some (s.mem.read a.toNat) }

/-- WAIT is asserted (R152): an access is held, on an open port. -/
def State.wait (s : State) : Bool := s.part.portOpen && s.held.isSome

/-! ## Record writing (R150) -/

/-- A journal record. -/
def RecordKind.isJournal : RecordKind → Bool
  | .journal _ => true
  | _ => false

/-- A journal record is complete: the offer is examined for the adoption-angle match it was written at, when the part
has stayed in CYCLE_LOCKED since (R137, R145). The matches still owed an examination are those of the newest journal
records, of which `p` holds the ones that wait behind this one. -/
def Part.examineOffer (m : Mem) (p : Part) : Part :=
  if p.xu.records.countP (fun r => r.kind.isJournal) < p.xu.examineOwed then
    { p with xu.examineOwed := p.xu.examineOwed - 1 }.adoptionPoint m
  else p

/-- What follows a record's last word: the newest index, CYCLE and the examination of the offer (R145), NOTE (R146),
READY and SNAPSHOT (R149). -/
def State.complete (r : Record) (s : State) : State :=
  match r.kind with
  | .journal n =>
    let m := s.mem.write 0x00E (wordOfNat n.val)
    { s with mem := m, part := (s.part.setCause .cycle).examineOffer m }
  | .note _ => { s with part := s.part.setCause .note }
  | .snapshot =>
    { s with mem := s.mem.write 0x00C (if r.released then 0 else 2), part := s.part.setCause .snapshot }
  | _ => s

/-- The word a held access is to. -/
def HeldAccess.addr : HeldAccess → Addr
  | .read a => a
  | .write a _ => a

/-- An access that was held takes effect: a read returns its word, a write is decided (R150, R152). -/
def State.finishAccess (h : HeldAccess) (s : State) : State :=
  match h with
  | .read a => { s with readData := some (s.mem.read a.toNat) }
  | .write a v => s.decideWrite a.toNat v

/-- The held access completes once the record that held it is complete, before the next record begins (R150), and
after what follows the record's last word (DESIGN CHOICE, log 70). -/
def State.releaseHeld (r : Record) (s : State) : State :=
  match s.held with
  | some h => if r.kind.covers h.addr.toNat then { s with held := none }.finishAccess h else s
  | none => s

/-- One tick of record writing (R150): the next word of the record at the front; its last word completes it. -/
def State.writeRecordWord (s : State) : State :=
  match s.part.xu.records with
  | [] => s
  | r :: rs =>
    let mem := if r.done < r.kind.len then s.mem.write (r.kind.base + r.done) (r.words.getD r.done 0) else s.mem
    if r.done + 1 < r.kind.len then
      { s with mem := mem, part.xu.records := { r with done := r.done + 1 } :: rs }
    else ({ s with mem := mem, part.xu.records := rs }.complete r).releaseHeld r

end Sys2Proof.Machine
end

