-- ==== Sys2Proof/Machine/Resets.lean ====
section
/-! DEFINITION. The three resets, retention and wake (R135, R154 to R156). -/

namespace Sys2Proof.Machine

/-- The entries of a run of words from an address on: the words that are not 0. -/
def Mem.ofRun : Nat → List Word → Mem
  | _, [] => []
  | a, w :: ws => if w = 0 then Mem.ofRun (a + 1) ws else (a, w) :: Mem.ofRun (a + 1) ws

/-- The words of the learned tables (Table 10-2). -/
def Part.learnedMem (p : Part) : Mem :=
  Mem.ofRun 0xA00 (p.refTable.toList.flatMap RefEntry.words) ++
  Mem.ofRun 0xA40 (p.holdTable.toList.flatMap HoldEntry.words)

/-- The scratch area's words (R154). -/
def Mem.scratch (m : Mem) : Mem := m.filter fun c => decide (0xB00 ≤ c.1 ∧ c.1 < 0xB40)

/-- The power-on reset (R154, R135). The level of the RESET line and the commands that wait are outside the part. -/
def State.powerOn (s : State) : State :=
  { State.reset with part := Part.afterReset refDefaults holdDefaults 0 .powerOn s.part.power.resetLine,
                     pending := s.pending }

/-- The RESET line reset and the wake from retention (R135, R154): the learned tables, the scratch area and WAKETIME
stay, every other word and item takes its reset value. The learned words are written from the tables, a record not yet
written or not (DESIGN CHOICE, log 51). -/
def State.resetKeeping (cause : WakeCause) (line : Bool) (s : State) : State where
  mem := resetWords ++ s.part.learnedMem ++ s.mem.scratch
  held := none
  readData := none
  part := Part.afterReset s.part.refTable s.part.holdTable s.part.power.waketime cause line
  pending := s.pending

/-- The wake from retention (R156). -/
def State.wake (cause : WakeCause) (s : State) : State := s.resetKeeping cause s.part.power.resetLine

/-- A wake event in ENTERING (R155): the entry is abandoned. -/
def Part.abandonEntry (p : Part) : Part :=
  { p.withdrawDischarge with power.state := .run }.setCause .wakeAbort

/-- The entry into RETAINED (R155): the retained region is kept and the rest of the part loses its state, which stands
at its reset values until the wake (log 4). The wake timer starts when WAKETIME is not 0. -/
def State.retain (s : State) : State :=
  let w := s.part.power
  let q := s.resetKeeping w.wakeCause w.resetLine
  { q with part.power := { w with
      state := .retained, wakeTimer := if w.waketime = 0 then none else some w.waketime.toNat } }

/-- A discharge check (R120, R155): with every output discharged the entry ends in RETAINED. -/
def State.dischargeCheck (currents : Vector Nat 6) (s : State) : State :=
  if s.part.awake = true ∧ s.part.power.state = .entering ∧ s.part.stage.discharge = true ∧ discharged currents = true
  then s.retain
  else s

end Sys2Proof.Machine
end

