-- ==== Sys2Proof/Machine/Teeth.lean ====
section
/-! DEFINITION. Firing a match, the tooth and its event, snapshots and the journal, and the crank edge (R1 to R9, R12,
R13, R18, R19, R21, R24, R145, R149). -/

namespace Sys2Proof.Machine

/-! ## Snapshots (R149) -/

/-- Capture a pending snapshot (R149); READY and SNAPSHOT follow when the record is complete (log 5). `event` is 0 at
a tooth and 1 at a standby tick. -/
def Part.capture (m : Mem) (event : Nat) (p : Part) : Part :=
  if m.read 0x00C = 1 ∧ p.snapshotUnderWay = false then p.handOver .snapshot (p.snapshotWords event) else p

/-! ## Matches fire (R16, R18, R19) -/

/-- The adoption-angle match (R137, R145): the cycle number advances and the journal record is handed over. The newest
index, CYCLE and then the examination of the offer follow when the record is complete (`State.complete`; log 5). -/
def Part.adoptionMatch (p : Part) : Part :=
  let p := p.requestAdoption
  let p := { p with xu.cycle := min (p.xu.cycle + 1) 4294967295 }
  let p := p.handOver (.journal ⟨p.xu.cycle % 32, Nat.mod_lt _ (by decide)⟩) p.journalWords
  { p with xu.firstJournal := false, xu.examineOwed := p.xu.examineOwed + 1 }

/-- A match is handed to its requester (Table 1-7); its slot is already IDLE. -/
def Part.handMatch (k : Fin 24) (late : Bool) (p : Part) : Part :=
  if k.val < 16 then p.windowCheck ⟨k.val / 4 % 4, by omega⟩ ⟨k.val % 4, by omega⟩
  else if k.val < 22 then
    let j : Fin 2 := if k.val < 19 then 0 else 1
    match (k.val - 16) % 3 with
    | 0 => p.planMatch j late
    | 1 => p.actionMatch j late
    | _ => p.closeMatch j
  else if k.val = 22 then p.adoptionMatch
  else p.requestMark.markCheck

/-- A match fires: its slot returns to IDLE and the requester receives it (R16). -/
def Part.fire (k : Fin 24) (late : Bool) (p : Part) : Part := (p.cancelMatch k).handMatch k late

/-- A slot holds an armed match. -/
def MatchSlot.isArmed : MatchSlot → Bool
  | .armed _ _ _ => true
  | .idle | .waiting _ _ => false

/-- A slot holds a waiting match. -/
def MatchSlot.isWaiting : MatchSlot → Bool
  | .waiting _ _ => true
  | .idle | .armed _ _ _ => false

/-- The late matches of an arrival (R19): the slots that were ARMED before it and still hold that match. -/
def Part.fireLate (before : Vector MatchSlot 24) (p : Part) : Part :=
  allSlots.foldl (fun p k =>
    if (vget before k).isArmed = true ∧ vget p.slots k = vget before k then p.fire k true else p) p

/-- A WAITING slot of the matching kind as the new tooth leaves it (R18). -/
def Part.armedAtTooth (p : Part) (s : MatchSlot) : MatchSlot :=
  match s with
  | .waiting x kind =>
    let d := forwardIn kind.circle p.angle.a0 x
    if p.angle.sync.serves kind = true ∧ d ≤ p.angle.span - 1 then
      .armed x kind (later p.angle.t0 (ceilDiv (d * p.angle.pp) 150))
    else s
  | _ => s

/-- Arm the slots that waited before the arrival and wait still (R18; log 9). -/
def Part.armWaiting (before : Vector MatchSlot 24) (p : Part) : Part :=
  allSlots.foldl (fun p k =>
    if (vget before k).isWaiting = true ∧ vget p.slots k = vget before k then
      { p with slots := vset p.slots k (p.armedAtTooth (vget p.slots k)) }
    else p) p

/-- A slot that waited before the arrival for the new tooth's angle and is armed with it. -/
def Part.dueAtTooth (before : Vector MatchSlot 24) (k : Fin 24) (p : Part) : Bool :=
  match vget before k, vget p.slots k with
  | .waiting x kind, .armed y _ e =>
    decide (x = y ∧ e = p.angle.t0 ∧ forwardIn kind.circle p.angle.a0 x = 0)
  | _, _ => false

/-- Fire at once the matches whose angle is the new tooth's, late flag clear (R18). -/
def Part.fireDue (before : Vector MatchSlot 24) (p : Part) : Part :=
  allSlots.foldl (fun p k => if p.dueAtTooth before k then p.fire k false else p) p

/-! ## The tooth event (R21) -/

/-- The tooth event in the Exchange Unit: the angle status record (R21), a prompt offer (R137), a pending snapshot
(R149), in this order (DESIGN CHOICE, log 65). The Cam Edge and Lobe Selector Units read t0, a0, Pp and span where the
Angle Unit holds them. -/
def Part.toothEvent (m : Mem) (p : Part) : Part :=
  let p := p.writeAngle
  let prompt := match p.xu.offer with
    | some o => o.prompt
    | none => false
  let p := if p.angle.sync = .cycleLocked ∧ prompt = true then p.adoptionPoint m else p
  p.capture m 0

/-! ## Tooth 0 (R12, R13, R24) -/

/-- The check of a mark window that wraps, at the tooth 0 that ends its revolution: once per revolution in
CRANK_LOCKED, once per revolution A in CYCLE_LOCKED (R12). -/
def Part.wrappedCheck (p : Part) : Part :=
  match p.angle.window with
  | some w =>
    if w.mc < w.mo ∧ (p.angle.sync = .crankLocked ∨ p.angle.rev = .b) then p.markCheck else p
  | none => p

/-- The adopted mark window is taken into use (R24). A configuration without one leaves the sync state as it is,
CYCLE_LOCKED too, where no check follows (DESIGN CHOICE, log 42). -/
def Part.takeWindow (p : Part) : Part :=
  match p.angle.newWindow with
  | some w =>
    let p := { p with angle := { p.angle with
      window := w, newWindow := none, markSeen := false, missCount := 0, anomalyCount := 0 } }
    (p.cancelMatch 23).requestMark
  | none => p

/-- Tooth 0, after R8 has set its values: the wrapped check, the decision on cycle lock, a new mark window (R12, R13,
R24; order: log 15). `arrived` is the sync state the tooth found. A tooth 0 that begins revolution B and whose wrapped
check loses cycle lock is no tooth 0 in CRANK_LOCKED for a waiting window (DESIGN CHOICE, log 43). -/
def Part.toothZero (arrived : Sync) (p : Part) : Part :=
  let rev := p.angle.rev
  let p := p.wrappedCheck
  let p :=
    if arrived = .crankLocked then
      let p := if p.angle.markedA = true ∧ p.angle.window.isSome = true then p.gainCycle else p
      { p with angle.markedA := false }
    else p
  let p := { p with angle.markInRev := false }
  if arrived = .crankLocked ∨ (arrived = .cycleLocked ∧ rev = .a) then p.takeWindow else p

/-! ## Accepted teeth (R1, R8, R9) -/

/-- The other revolution. -/
def Rev.other : Rev → Rev
  | .a => .b
  | .b => .a
  | .unknown => .unknown

/-- The values of R1 and R8 at an accepted tooth at `t` that ends interval `i`. -/
def AngleUnit.toTooth (t : Tick) (i : Nat) (g : AngleUnit) : AngleUnit :=
  let n := if g.tooth = 21 then 0 else g.tooth + 1
  let rev := if n = 0 then g.rev.other else g.rev
  { g with
    prev := some i, tooth := n, rev := rev, t0 := t,
    a0 := 150 * n + (if g.sync = .cycleLocked ∧ rev = .b then 3600 else 0),
    pp := if n = 0 then i / 3 else i,
    span := if n = 21 then 450 else 150 }

/-- Revolution time and speed with 22 intervals in the history (R9). -/
def AngleUnit.toSpeed (g : AngleUnit) : AngleUnit :=
  if g.history.length = 22 then
    let r := g.history.foldl (· + ·) 0
    { g with revTicks := r, speed := min (roundHalfUp Config.ticksPerMinute r) 20000 }
  else g

/-- The slots as an arrival found them. A tooth that takes a new mark window has asked for slot 23 anew (R24), so that
what the slot held before it is gone (log 9). -/
def slotsBefore (found : Part) (now : Part) : Vector MatchSlot 24 :=
  if found.angle.newWindow = now.angle.newWindow then found.slots else vset found.slots 23 .idle

/-- An accepted tooth: R8 and R9, tooth 0's decisions, the tooth event, the late matches and the matches it arms, in
this order (log 8). -/
def Part.tooth (m : Mem) (t : Tick) (i : Nat) (p : Part) : Part :=
  let found := p
  let p := { p with angle := (p.angle.toTooth t i).toSpeed }
  let p := if p.angle.tooth = 0 then p.toothZero found.angle.sync else p
  let before := slotsBefore found p
  (((p.toothEvent m).fireLate before).armWaiting before).fireDue before

/-! ## The crank edge (R3 to R7) -/

/-- An interval has the shape of the gap against the one before it (R6, R7). -/
def gapShape (i ip : Nat) : Bool := decide (2 * ip ≤ i ∧ 2 * i ≤ 9 * ip)

/-- Step 2 of R6. -/
def candidateOf (i ip : Nat) : Option Nat := if gapShape i ip then some i else none

/-- A crank edge at `t` is rejected (R3). -/
def AngleUnit.rejects (g : AngleUnit) (t : Tick) : Bool :=
  match g.prev, g.last with
  | some ip, some last => decide (4 * elapsed t last < ip)
  | _, _ => false

/-- A rejected edge makes its note (R3). -/
def Part.rejectEdge (t : Tick) (p : Part) : Part :=
  match p.angle.last with
  | some last => p.note .edgeRejected syncUnit (detailOf (min (elapsed t last) 65535 : Nat))
  | none => p

/-- The interval an accepted edge ends, if an accepted edge came before (R4). -/
def AngleUnit.interval (g : AngleUnit) (t : Tick) : Option Nat := g.last.map (elapsed t)

/-- R4: record the accepted edge. The previous interval is set by the rule of the sync state. -/
def Part.recordEdge (t : Tick) (p : Part) : Part :=
  let h := match p.angle.interval t with
    | some i => if 22 ≤ p.angle.history.length then p.angle.history.tail ++ [i] else p.angle.history ++ [i]
    | none => p.angle.history
  { p with angle.last := some t, angle.stall := some (later t p.stallTicks), angle.history := h }

/-- The gap candidate is confirmed (R6): the present edge is tooth 1. The whole change of sync state comes first, with
its angle status record, and the first tooth event after it (DESIGN CHOICE, log 71). No speed update comes with this
edge (log 32), and the mark-window match is placed by R17 alone (log 9). -/
def Part.lockCrank (m : Mem) (t : Tick) (i : Nat) (p : Part) : Part :=
  let p := { p with angle := { p.angle with
    prev := some i, candidate := none, tooth := 1, rev := .unknown, t0 := t, a0 := 150, pp := i, span := 150,
    markSeen := false, markedA := false, missCount := 0, noMarkRaised := false, markInRev := false } }
  ((p.changeSync .crankLocked).requestMark).toothEvent m

/-- An accepted edge in SEEKING that ends interval `i` after interval `ip` (R6). -/
def Part.seekEdge (m : Mem) (t : Tick) (i ip : Nat) (p : Part) : Part :=
  match p.angle.candidate with
  | some g =>
    if 2 * i ≤ g then p.lockCrank m t i
    else { p with angle.prev := some i, angle.candidate := candidateOf i ip }
  | none => { p with angle.prev := some i, angle.candidate := candidateOf i ip }

/-- The failure an interval shows in a locked state (R7): 0 EARLY_GAP, 1 MISSING_GAP, 2 RATIO. -/
def wheelFailure (tooth i ip : Nat) : Option Nat :=
  if tooth < 21 then (if i < 2 * ip then none else some 0)
  else if i < 2 * ip then some 1
  else if 9 * ip < 2 * i then some 2
  else none

/-- An accepted edge in CRANK_LOCKED or CYCLE_LOCKED (R7). -/
def Part.lockedEdge (m : Mem) (t : Tick) (i ip : Nat) (p : Part) : Part :=
  match wheelFailure p.angle.tooth i ip with
  | some detail => { p with angle.prev := some i }.loseCrank detail (candidateOf i ip)
  | none => p.tooth m t i

/-- An accepted crank edge (R4, then the rule of the sync state). -/
def Part.acceptEdge (m : Mem) (t : Tick) (p : Part) : Part :=
  let interval := p.angle.interval t
  let old := p.angle.prev
  let p := p.recordEdge t
  match p.angle.sync with
  | .stopped => { p with angle.prev := none, angle.history := [] }.changeSync .seeking
  | .seeking =>
    match interval, old with
    | some i, some ip => p.seekEdge m t i ip
    | _, _ => { p with angle.prev := interval }
  | .crankLocked | .cycleLocked =>
    match interval, old with
    | some i, some ip => p.lockedEdge m t i ip
    | _, _ => { p with angle.prev := interval }

/-- A crank edge at `t` (R3). -/
def Part.crankEdge (m : Mem) (t : Tick) (p : Part) : Part :=
  let p := { p with clock := t }
  if p.angle.rejects t then p.rejectEdge t else p.acceptEdge m t

end Sys2Proof.Machine
end

