-- ==== Sys2Proof/Machine/Tick.lean ====
section
/-! DEFINITION. The 10 ms standby tick: the oil conditions, the adoption point and the snapshot (R137, R143, R144,
R149). -/

namespace Sys2Proof.Machine

/-- A changed conditions sequence (R143, R144): the pair is taken into force and CONDITIONS_STALE ceases. -/
def Part.takeConditions (m : Mem) (p : Part) : Part :=
  let p := { p with
    xu.oilTemp := clampInt (-40) 200 (m.read 0x008).toInt, xu.oilPressure := clampNat 0 1000 (m.read 0x009).toNat,
    xu.seqSeen := m.read 0x00A, xu.unchangedMs := 0 }
  p.writeInForce.cease .conditionsStale conditionsUnit

/-- An unchanged conditions sequence (R143, R144). -/
def Part.ageConditions (p : Part) : Part :=
  let p := { p with xu.unchangedMs := p.xu.unchangedMs + 10 }
  if p.cfg.staleMs ≤ p.xu.unchangedMs ∧ p.stale = false then
    p.raise .conditionsStale conditionsUnit (detailOf p.xu.seqSeen.toNat) true
  else p

/-- The conditions at a tick (R143, R144). -/
def Part.conditionsTick (m : Mem) (p : Part) : Part :=
  if m.read 0x00A = p.xu.seqSeen then p.ageConditions else p.takeConditions m

/-- The standby tick: the conditions in every sync state (R143), an adoption point outside CYCLE_LOCKED (R137), a
pending snapshot outside the locked states (R149); in this order (log 10). -/
def Part.standbyTick (m : Mem) (t : Tick) (p : Part) : Part :=
  let p := { p with clock := t }.conditionsTick m
  let p := if p.angle.sync = .cycleLocked then p else p.adoptionPoint m
  if p.angle.locked then p else p.capture m 1

end Sys2Proof.Machine
end

