-- ==== Sys2Proof/Machine/EngineCommands.lean ====
section
/-! DEFINITION. The commands of the engine signals and of the capture clock: CRANK_EDGE, STALL, CAM_EDGE, MATCH_EXPIRY
and STANDBY_TICK. Each takes effect in a part at work alone (logs 3 and 4). -/

namespace Sys2Proof.Machine

/-- An event of the engine, the output stage or a timer: it acts on the units of a part at work and reads the exchange
memory. -/
def State.event (f : Mem → Part → Part) (s : State) : State :=
  if s.part.awake then { s with part := f s.mem s.part } else s

/-- A crank edge in RUN or ENTERING: an accepted one abandons an entry and is also taken by the Angle Unit (R155), the
abandonment first (DESIGN CHOICE, log 75). -/
def Part.crankInput (m : Mem) (t : Tick) (p : Part) : Part :=
  if p.power.state = .entering ∧ p.angle.rejects t = false then p.abandonEntry.crankEdge m t else p.crankEdge m t

/-- CRANK_EDGE (R3 to R9). The edge that wakes a RETAINED part is not taken as a crank edge (R156). -/
def execCrankEdge (t : Tick) (s : State) : Host.Outcome State Fault Refusal :=
  .next (if s.part.power.state = .retained ∧ s.part.power.resetLine = false then s.wake .crank
         else s.event fun m p => p.crankInput m t)

/-- The stall timer expires (R10). -/
def Part.stallExpiry (p : Part) : Part :=
  match p.angle.stall with
  | some e => { p with clock := e }.doStall
  | none => p

/-- STALL (R10). -/
def execStall (s : State) : Host.Outcome State Fault Refusal := .next (s.event fun _ p => p.stallExpiry)

/-- A falling edge on a cam input (R25): the Cam Edge Unit takes it, and the Angle Unit takes one on CAM0 as well
(R12; order: log 27). -/
def Part.camInput (m : Mem) (input : Fin 4) (t : Tick) (p : Part) : Part :=
  let p := { p with clock := t }.classify m input t
  if input = 0 then p.markEdge t else p

/-- CAM_EDGE (R25). -/
def execCamEdge (input : Fin 4) (t : Tick) (s : State) : Host.Outcome State Fault Refusal :=
  .next (s.event fun m p => p.camInput m input t)

/-- The capture clock reaches an ARMED slot's expiry (R18). A slot that is not ARMED fires nothing. -/
def Part.expire (slot : Fin 24) (p : Part) : Part :=
  match vget p.slots slot with
  | .armed _ _ expiry => { p with clock := expiry }.fire slot false
  | .idle | .waiting _ _ => p

/-- MATCH_EXPIRY (R18). -/
def execMatchExpiry (slot : Fin 24) (s : State) : Host.Outcome State Fault Refusal :=
  .next (s.event fun _ p => p.expire slot)

/-- STANDBY_TICK (R137, R143, R144, R149). -/
def execStandbyTick (t : Tick) (s : State) : Host.Outcome State Fault Refusal :=
  .next (s.event fun m p => p.standbyTick m t)

end Sys2Proof.Machine
end

