-- ==== Sys2Proof/Machine/ExchangeCommands.lean ====
section
/-! DEFINITION. The commands of the exchange memory: the host's writes to it, the writing of records and the end of a
held access (R134, R136, R147, R148, R150, R152, R154). -/

namespace Sys2Proof.Machine

/-- RECORD_WORD_WRITE (R150). -/
def execRecordWordWrite (s : State) : Host.Outcome State Fault Refusal :=
  .next (if s.part.awake then s.writeRecordWord else s)

/-- ACCESS_ABANDONED (R152): the held access ends, and a write held is not stored. -/
def execAccessAbandoned (s : State) : Host.Outcome State Fault Refusal := .next { s with held := none }

/-- EXCHANGE_MEMORY_WRITE (R134). -/
def execExchangeMemoryWrite (addr : Addr) (value : Word) (s : State) : Host.Outcome State Fault Refusal :=
  .next (s.portWrite addr.toNat value)

/-- LEARNED_TABLE_WRITE (R154, R40, R84). -/
def execLearnedTableWrite (off : BitVec 8) (value : Word) (s : State) : Host.Outcome State Fault Refusal :=
  .next (s.portWrite (0xA00 + off.toNat) value)

/-- OFFER (R136). -/
def execOffer (page : Fin 2) (seq : BitVec 15) (s : State) : Host.Outcome State Fault Refusal :=
  .next (s.portWrite 0x002 (offerWord page seq))

/-- WITHDRAW_OFFER (R136). -/
def execWithdrawOffer (page : Fin 2) (s : State) : Host.Outcome State Fault Refusal :=
  .next (s.portWrite 0x002 (offerWord page 0))

/-- NOTE_FREE (R147). -/
def execNoteFree (slot : Fin 16) (s : State) : Host.Outcome State Fault Refusal :=
  .next (s.portWrite (0x400 + 16 * slot.val) 0)

/-- SNAPSHOT_REQUEST (R148). -/
def execSnapshotRequest (s : State) : Host.Outcome State Fault Refusal := .next (s.portWrite 0x00C 1)

/-- SNAPSHOT_RELEASE (R148). -/
def execSnapshotRelease (s : State) : Host.Outcome State Fault Refusal := .next (s.portWrite 0x00C 0)

end Sys2Proof.Machine
end

