-- ==== Sys2Proof/Machine/OutputCommands.lean ====
section
/-! DEFINITION. The commands of the output stage: periods, on-times, currents, dips, probes, temperature, the driver
status refresh and the discharge check (R107 to R121). -/

namespace Sys2Proof.Machine

/-- PWM_PERIOD_START (R107). -/
def execPwmPeriodStart (out : Fin 4) (s : State) : Host.Outcome State Fault Refusal :=
  .next (s.event fun _ p => p.periodStart (phaserOutput out))

/-- ON_TIME_END (R108, R112, R113). -/
def execOnTimeEnd (out : Fin 4) (mean : Int) (s : State) : Host.Outcome State Fault Refusal :=
  .next (s.event fun _ p => p.onTimeEnd (phaserOutput out) mean)

/-- OVER_CURRENT (R114). -/
def execOverCurrent (out : Fin 6) (current : Nat) (s : State) : Host.Outcome State Fault Refusal :=
  .next (s.event fun _ p => p.overCurrent out current)

/-- PEAK_TIMER_EXPIRY (R109). -/
def execPeakTimerExpiry (sel : Fin 2) (s : State) : Host.Outcome State Fault Refusal :=
  .next (s.event fun _ p => p.peakEnd (selectorOutput sel))

/-- SELECTOR_CURRENT_CHECK (R110, R112, R113). -/
def execSelectorCurrentCheck (sel : Fin 2) (mean : Int) (s : State) : Host.Outcome State Fault Refusal :=
  .next (s.event fun _ p => p.currentCheck (selectorOutput sel) mean)

/-- DIP_SAMPLE (R111). -/
def execDipSample (sel : Fin 2) (sample : Int) (s : State) : Host.Outcome State Fault Refusal :=
  .next (s.event fun _ p => p.dipSample sel sample)

/-- PROBE_JUDGEMENT (R116). -/
def execProbeJudgement (carried : Bool) (s : State) : Host.Outcome State Fault Refusal :=
  .next (s.event fun _ p => p.probeEnd carried)

/-- STAGE_TEMPERATURE_SAMPLE (R118, R119). -/
def execStageTemperatureSample (temp : Int) (s : State) : Host.Outcome State Fault Refusal :=
  .next (s.event fun _ p => p.temperatureSample temp)

/-- DRIVER_STATUS_REFRESH (R121). -/
def execDriverStatusRefresh (s : State) : Host.Outcome State Fault Refusal :=
  .next (s.event fun _ p => p.writeDriver)

/-- DISCHARGE_CHECK (R120, R155). -/
def execDischargeCheck (currents : Vector Nat 6) (s : State) : Host.Outcome State Fault Refusal :=
  .next (s.dischargeCheck currents)

end Sys2Proof.Machine
end

