-- ==== Sys2Proof/Machine/PowerCommands.lean ====
section
/-! DEFINITION. The commands of the Power Unit: the resets, the RESET and WAKE lines and the wake timer (R135, R152,
R154 to R156). -/

namespace Sys2Proof.Machine

/-- POWER_ON_RESET (R154). -/
def execPowerOnReset (s : State) : Host.Outcome State Fault Refusal := .next s.powerOn

/-- RESET_LINE (R135, R154): in every power state the part is reset, and the port is closed while the line is
asserted. -/
def execResetLine (s : State) : Host.Outcome State Fault Refusal := .next (s.resetKeeping .resetLine true)

/-- RESET_LINE_DEASSERTED (R152). -/
def execResetLineDeasserted (s : State) : Host.Outcome State Fault Refusal :=
  .next { s with part.power.resetLine := false }

/-- WAKE_LINE (R155, R156): it wakes a RETAINED part and abandons an entry. -/
def execWakeLine (s : State) : Host.Outcome State Fault Refusal :=
  .next (if s.part.power.resetLine then s
         else match s.part.power.state with
           | .retained => s.wake .wakeLine
           | .entering => { s with part := s.part.abandonEntry }
           | .run => s)

/-- WAKE_TIMER_EXPIRY (R156): the timer runs in RETAINED alone. -/
def execWakeTimerExpiry (s : State) : Host.Outcome State Fault Refusal :=
  .next (if s.part.power.resetLine = false ∧ s.part.power.state = .retained ∧ s.part.power.wakeTimer.isSome = true
         then s.wake .timer else s)

end Sys2Proof.Machine
end

