-- ==== Sys2Proof/Machine/RegisterCommands.lean ====
section
/-! DEFINITION. The commands that write registers (Table 10-1; R151, R152, R153, R155). -/

namespace Sys2Proof.Machine

/-- RETAIN_REQUEST (R155): PORTCTL is written with RETAIN 1. -/
def execRetainRequest (halt : Bool) (s : State) : Host.Outcome State Fault Refusal :=
  .next (s.portWrite 0xFF9 (flagsWord [true, halt]))

/-- HALT_LEARN_WRITE (R153): PORTCTL is written with RETAIN 0. -/
def execHaltLearnWrite (halt : Bool) (s : State) : Host.Outcome State Fault Refusal :=
  .next (s.portWrite 0xFF9 (flagsWord [false, halt]))

/-- PROTECTED_WRITE_CLEAR (R153): PORTSTAT is written with bit 2 set. -/
def execProtectedWriteClear (others : Word) (s : State) : Host.Outcome State Fault Refusal :=
  .next (s.portWrite 0xFFA (others ||| 4))

/-- ATTN_CLEAR (R151). -/
def execAttnClear (mask : Word) (s : State) : Host.Outcome State Fault Refusal := .next (s.portWrite 0xFFB mask)

/-- ATTNEN_WRITE (R151). -/
def execAttnenWrite (value : Word) (s : State) : Host.Outcome State Fault Refusal := .next (s.portWrite 0xFFC value)

/-- REGISTER_WRITE (R152). -/
def execRegisterWrite (reg : Fin 8) (value : Word) (s : State) : Host.Outcome State Fault Refusal :=
  .next (s.portWrite (0xFF8 + reg.val) value)

end Sys2Proof.Machine
end

