-- ==== Sys2Proof/Machine/Dispatch.lean ====
section
/-! DEFINITION. The dispatch: one arm per command, each one direct call of its meaning. -/

namespace Sys2Proof.Machine

def exec (i : Instr) (s : State) : Host.Outcome State Fault Refusal :=
  match i with
  | .powerOnReset => Sys2Proof.Machine.execPowerOnReset s
  | .resetLine => Sys2Proof.Machine.execResetLine s
  | .crankEdge t => Sys2Proof.Machine.execCrankEdge t s
  | .stall => Sys2Proof.Machine.execStall s
  | .camEdge input t => Sys2Proof.Machine.execCamEdge input t s
  | .matchExpiry slot => Sys2Proof.Machine.execMatchExpiry slot s
  | .standbyTick t => Sys2Proof.Machine.execStandbyTick t s
  | .pwmPeriodStart out => Sys2Proof.Machine.execPwmPeriodStart out s
  | .onTimeEnd out mean => Sys2Proof.Machine.execOnTimeEnd out mean s
  | .overCurrent out current => Sys2Proof.Machine.execOverCurrent out current s
  | .peakTimerExpiry sel => Sys2Proof.Machine.execPeakTimerExpiry sel s
  | .selectorCurrentCheck sel mean => Sys2Proof.Machine.execSelectorCurrentCheck sel mean s
  | .dipSample sel sample => Sys2Proof.Machine.execDipSample sel sample s
  | .probeJudgement carried => Sys2Proof.Machine.execProbeJudgement carried s
  | .stageTemperatureSample temp => Sys2Proof.Machine.execStageTemperatureSample temp s
  | .driverStatusRefresh => Sys2Proof.Machine.execDriverStatusRefresh s
  | .dischargeCheck currents => Sys2Proof.Machine.execDischargeCheck currents s
  | .wakeLine => Sys2Proof.Machine.execWakeLine s
  | .wakeTimerExpiry => Sys2Proof.Machine.execWakeTimerExpiry s
  | .recordWordWrite => Sys2Proof.Machine.execRecordWordWrite s
  | .accessAbandoned => Sys2Proof.Machine.execAccessAbandoned s
  | .exchangeMemoryWrite addr value => Sys2Proof.Machine.execExchangeMemoryWrite addr value s
  | .learnedTableWrite off value => Sys2Proof.Machine.execLearnedTableWrite off value s
  | .offer page seq => Sys2Proof.Machine.execOffer page seq s
  | .withdrawOffer page => Sys2Proof.Machine.execWithdrawOffer page s
  | .noteFree slot => Sys2Proof.Machine.execNoteFree slot s
  | .snapshotRequest => Sys2Proof.Machine.execSnapshotRequest s
  | .snapshotRelease => Sys2Proof.Machine.execSnapshotRelease s
  | .retainRequest halt => Sys2Proof.Machine.execRetainRequest halt s
  | .haltLearnWrite halt => Sys2Proof.Machine.execHaltLearnWrite halt s
  | .protectedWriteClear others => Sys2Proof.Machine.execProtectedWriteClear others s
  | .attnClear mask => Sys2Proof.Machine.execAttnClear mask s
  | .attnenWrite value => Sys2Proof.Machine.execAttnenWrite value s
  | .registerWrite reg value => Sys2Proof.Machine.execRegisterWrite reg value s
  | .resetLineDeasserted => Sys2Proof.Machine.execResetLineDeasserted s

end Sys2Proof.Machine
end

