-- ==== Sys2Proof/Machine/Step.lean ====
section
/-! DEFINITION. The step: the command at the front of the queue, or one tick of the capture clock. -/

namespace Sys2Proof.Machine

/-- One tick of the capture clock: it counts in a part at work (R2, R155; logs 2 to 4). -/
def State.idle (s : State) : State :=
  if s.part.awake then { s with part.clock := later s.part.clock 1 } else s

/-- One step: the command at the front of the queue runs with the queue's rest; with no command waiting, one tick of
the capture clock passes (log 2). -/
def step (s : State) : Host.Outcome State Fault Refusal :=
  match s.pending with
  | [] => .next s.idle
  | c :: cs => exec c { s with pending := cs }

/-- The state with the command that a word spells at the front of its queue; no word spells one (log 34). -/
def State.withFetchWord (s : State) (nbits w : Nat) : State :=
  match decodeTableWord nbits w with
  | some c => { s with pending := c :: s.pending }
  | none => s

end Sys2Proof.Machine
end

