-- ==== Sys2Proof/Safety.lean ====
section
/-! DEFINITION. What counts as a sound state, and what the frames of the commands say: the map invariant, the ranges of
the learned tables, control under cycle lock, the structural tests of a configuration page, and the relations "outward"
and "still" between the units before and after. -/

namespace Sys2Proof.Machine

/-! ## The exchange memory -/

/-- A word that reads 0 whatever is done: an unassigned word, or a word of an assigned area that no layout names and
no record covers (R134, Tables 8-1, 8-2, 8-4, 8-5, 8-8, 9-5, 10-2). -/
def reserved (a : Nat) : Bool :=
  unassigned a ||
  decide (a = 0x007 ∨ a = 0x00B ∨ a = 0x00D ∨ a = 0x00F ∨ (0x013 ≤ a ∧ a < 0x040) ∨ (0x3C8 ≤ a ∧ a < 0x3E0) ∨
    (0x9CB ≤ a ∧ a < 0xA00) ∨ (0xA20 ≤ a ∧ a < 0xA40) ∨ (0xA80 ≤ a ∧ a < 0xB00)) ||
  (decide (0x100 ≤ a ∧ a < 0x200) && !pageNamed (a - 0x100)) ||
  (decide (0x200 ≤ a ∧ a < 0x300) && !pageNamed (a - 0x200))

/-- The map holds: canonical form, reserved words 0, no word at or above the registers, identity words (R134, R135). -/
structure State.MapOk (s : State) : Prop where
  canonical : s.mem.wf = true
  reservedZero : ∀ a, reserved a = true → s.mem.read a = 0
  belowRegisters : ∀ a, 0xFF8 ≤ a → s.mem.read a = 0
  family : s.mem.read 0x000 = wordOfNat Config.familyCode
  revision : s.mem.read 0x001 = wordOfNat Config.revisionCode

/-! ## The learned tables -/

/-- The hold ranges of a configuration lie within 0 to 1000 (Table 4-1). -/
def Configuration.HoldsOk (c : Configuration) : Prop :=
  ∀ i : Fin 4, (vget c.phasers i).holdMin ≤ 1000 ∧ (vget c.phasers i).holdMax ≤ 1000

/-- The learned tables lie within their ranges (R40, R82), and so do the ranges that bound them. -/
structure Part.TablesOk (p : Part) : Prop where
  offsets : ∀ n : Fin 16, -40 ≤ (vget p.refTable n).offset ∧ (vget p.refTable n).offset ≤ 40
  samples : ∀ n : Fin 16, (vget p.refTable n).count ≤ 255
  values : ∀ n : Fin 32, (vget p.holdTable n).value ≤ 1000
  counts : ∀ n : Fin 32, (vget p.holdTable n).count ≤ 255
  bounds : ∀ c, p.config = some c → c.HoldsOk

/-! ## Control under cycle lock -/

/-- A phaser is UNLOCKING, TRACKING, HOLDING or RETURNING only while sync is CYCLE_LOCKED (R65). -/
def Part.DrivenLocked (p : Part) : Prop :=
  ∀ i : Fin 4, (vget p.phasers i).state.driven = true → p.angle.sync = .cycleLocked

/-! ## Figures kept by state changes (R157) -/

/-- What a phaser's context keeps when its state changes between updates (R157), with the demand it took and Tr. -/
structure Figures where
  phase      : Int
  err        : Int
  band       : Nat
  hold       : Nat
  factor     : Nat
  stretched  : Bool
  lastUpdate : Nat
  enabled    : Bool
  freeze     : Bool
  ta         : Nat
  tr         : Nat
  deriving DecidableEq, Repr

/-- The figures of a context. -/
def PhaserCtx.figures (c : PhaserCtx) : Figures where
  phase := c.phase
  err := c.err
  band := c.band
  hold := c.hold
  factor := c.factor
  stretched := c.stretched
  lastUpdate := c.lastUpdate
  enabled := c.enabled
  freeze := c.freeze
  ta := c.ta
  tr := c.tr

/-- What a selector's context keeps when it is dropped or faulted (R157). -/
structure PlanTrace where
  requested   : Lobe
  wo          : Nat
  wc          : Nat
  lr          : Nat
  lm          : Nat
  action      : Nat
  deferReason : DeferReason
  deriving DecidableEq, Repr

/-- The plan trace of a context. -/
def SelectorCtx.trace (c : SelectorCtx) : PlanTrace where
  requested := c.requested
  wo := c.wo
  wc := c.wc
  lr := c.lr
  lm := c.lm
  action := c.action
  deferReason := c.deferReason

/-! ## Frames -/

/-- What the Exchange Unit holds beside notes, causes and records. -/
structure XuRest where
  offer          : Option Offer
  adoptedSeq     : BitVec 15
  verdict        : Verdict
  verdictDetail  : Word
  lastDropped    : BitVec 15
  oilTemp        : Int
  oilPressure    : Nat
  seqSeen        : Word
  unchangedMs    : Nat
  cycle          : Nat
  protectedWrite : Bool
  attnen         : BitVec 8
  haltLearn      : Bool
  deriving DecidableEq, Repr

/-- The rest of the Exchange Unit. -/
def Exchange.rest (x : Exchange) : XuRest where
  offer := x.offer
  adoptedSeq := x.adoptedSeq
  verdict := x.verdict
  verdictDetail := x.verdictDetail
  lastDropped := x.lastDropped
  oilTemp := x.oilTemp
  oilPressure := x.oilPressure
  seqSeen := x.seqSeen
  unchangedMs := x.unchangedMs
  cycle := x.cycle
  protectedWrite := x.protectedWrite
  attnen := x.attnen
  haltLearn := x.haltLearn

/-- Still: what no event of the engine or of the output stage changes, other than a phaser's update, a learning edge,
an adoption or a standby tick. No phaser comes under control by it. -/
structure Part.Still (p q : Part) : Prop where
  refTable : q.refTable = p.refTable
  holdTable : q.holdTable = p.holdTable
  demand : q.demand = p.demand
  config : q.config = p.config
  power : q.power = p.power
  rest : q.xu.rest = p.xu.rest
  figures : ∀ i, (vget q.phasers i).figures = (vget p.phasers i).figures
  driven : ∀ i, (vget q.phasers i).state.driven = true → (vget p.phasers i).state.driven = true
  records : ∃ rs, q.xu.records = p.xu.records ++ rs

/-- Outward: what a fault, a reaction, a request to an output or a report can change at most. The Angle Unit, the clock
and the passes stay; a match is at most cancelled. -/
structure Part.Outward (p q : Part) : Prop extends p.Still q where
  clock : q.clock = p.clock
  angle : q.angle = p.angle
  passes : q.passes = p.passes
  fresh : q.fresh = p.fresh
  slots : ∀ k, vget q.slots k = vget p.slots k ∨ vget q.slots k = .idle
  traces : ∀ j, (vget q.selectors j).trace = (vget p.selectors j).trace

/-! ## Structural tests (R141) -/

/-- An angle lies in the arc of a circle of m dd that begins at `start` and is `len` dd long. -/
def InArc (m start len angle : Nat) : Prop := (angle + (m - start % m)) % m ≤ len

/-- Open of the widened window of edge k (R29): N − S − 90 of an ADVANCING phaser, N − 90 of a RETARDING one. -/
def PhaserCfg.widenedFrom (g : PhaserCfg) (k : Fin 4) : Nat :=
  match g.direction with
  | .advancing => (vget g.nominal k + (7200 - 90) - g.stroke) % 7200
  | .retarding => (vget g.nominal k + (7200 - 90)) % 7200

/-- An angle lies in the widened window of edge k (R29), on the cycle (m = 7200) or modulo 3600. -/
def PhaserCfg.Widened (g : PhaserCfg) (m : Nat) (k : Fin 4) (angle : Nat) : Prop :=
  InArc m (g.widenedFrom k) (g.stroke + 180) angle

/-- A structural test of R141 that is attributed to page offset x fails, on the clamped values of a configuration page
(of two windows that overlap the later is the one with the greater k: log 31). -/
def structuralTestFails (pg : Nat → Word) (x : Nat) : Prop :=
  let c := configOf pg
  let length (open_ close : Nat) : Nat := (close + (7200 - open_)) % 7200
  (x = 0x03 ∧ ∃ (w : MarkWindow) (k : Fin 4) (z : Nat), c.window = some w ∧ z < 3600 ∧
    (vget c.phasers 0).Widened 3600 k z ∧ InArc 3600 w.mo ((w.mc + (3600 - w.mo)) % 3600) z) ∨
  (x = 0x0A ∧ c.enableSpeed < c.enableHyst) ∨
  (∃ i : Fin 4,
    let b := 0x40 + 32 * i.val
    let g := vget c.phasers i
    (x = b ∧ pg b ≠ 0 ∧ pg b ≠ 1) ∨ (x = b + 10 ∧ g.dmax ≤ g.dmin) ∨ (x = b + 13 ∧ g.holdMax < g.holdMin) ∨
    (x = b + 15 ∧ g.dmax < g.unlockDuty) ∨ (x = b + 16 ∧ g.dmin < g.parkDuty) ∨
    (∃ (k l : Fin 4) (z : Nat), k < l ∧ x = b + 2 + l.val ∧ z < 7200 ∧ g.Widened 7200 k z ∧ g.Widened 7200 l z)) ∨
  (∃ j : Fin 2,
    let b := 0xC0 + 16 * j.val
    let g := vget c.selectors j
    (x = b + 1 ∧ 3600 ≤ length g.iwOpen g.iwClose) ∨ (x = b + 3 ∧ 3600 ≤ length g.ewOpen g.ewClose))

/-! ## Stores, resets and notes -/

/-- Memory `m` with the word `v` stored at `a`, and no other word changed. -/
structure Mem.Stored (m : Mem) (a : Nat) (v : Word) (m' : Mem) : Prop where
  stored : m'.read a = v
  others : ∀ b, b ≠ a → m'.read b = m.read b
  form : m'.wf = true

/-- The verdict record that shows a dropped offer's sequence in LAST_DROPPED (R136, Table 8-2). -/
def Exchange.dropRecord (x : Exchange) (seq : BitVec 15) : Record where
  kind := .verdict
  done := 0
  words := [x.adoptedSeq.setWidth 16, wordOfNat x.verdict.code, x.verdictDetail, seq.setWidth 16]
  released := false

/-- State `u` is `s` after a reset that keeps the retained region (R135, R154): the learned tables, the scratch area
and WAKETIME stay, the learned words show the tables, every other word and every other item has its reset value. -/
structure State.ResetFrom (s : State) (cause : WakeCause) (line : Bool) (u : State) : Prop where
  pending : u.pending = s.pending
  held : u.held = none
  readData : u.readData = none
  part : u.part = Part.afterReset s.part.refTable s.part.holdTable s.part.power.waketime cause line
  scratch : ∀ a, 0xB00 ≤ a → a < 0xB40 → u.mem.read a = s.mem.read a
  refs : ∀ n : Fin 16, u.mem.read (0xA00 + 2 * n.val) = wordOfInt (vget s.part.refTable n).offset ∧
    u.mem.read (0xA01 + 2 * n.val) = wordOfNat (vget s.part.refTable n).count
  holds : ∀ n : Fin 32, u.mem.read (0xA40 + 2 * n.val) = wordOfNat (vget s.part.holdTable n).value ∧
    u.mem.read (0xA41 + 2 * n.val) = wordOfNat (vget s.part.holdTable n).count
  others : ∀ a, ¬(0xA00 ≤ a ∧ a < 0xB40) → u.mem.read a = State.reset.mem.read a

/-- A note of a kind on a unit has been handed over: it stands in the list with its detail, or the list is full and it
is withheld (R146). -/
def Exchange.Noted (x : Exchange) (k : NoteKind) (u : Unit15) (d : Detail) : Prop :=
  (x.notesWithheld = true ∧ ∀ m, (vget x.notes m).filled = true) ∨
  ∃ m, (vget x.notes m).filled = true ∧ (vget x.notes m).kind = k ∧ (vget x.notes m).unit = u ∧
    (vget x.notes m).detail = d

/-- No two FILLED notes share kind and unit, and each repeat count lies within 1 to 255 (R146). -/
structure Exchange.NotesOk (x : Exchange) : Prop where
  distinct : ∀ m n : Fin 16, (vget x.notes m).filled = true → (vget x.notes n).filled = true →
    (vget x.notes m).kind = (vget x.notes n).kind → (vget x.notes m).unit = (vget x.notes n).unit → m = n
  repeats : ∀ m : Fin 16, (vget x.notes m).filled = true → 1 ≤ (vget x.notes m).count ∧ (vget x.notes m).count ≤ 255

end Sys2Proof.Machine
end

