-- ==== Sys2Proof/Certificates/Slice0/Obligations.lean ====
section
/-! DEFINITION. The statements for the provers. A host write and an event are told apart as the model does: an event acts
on a part at work (`Part.awake`), a host write on an open port (`Part.portOpen`). -/

open Sys2Proof Sys2Proof.Machine

/-! ## The step and the whole machine -/

/-- A step takes the command at the front of the queue and runs it with the queue's rest. With no command waiting, one
tick of the capture clock passes in a part at work (that clause is the model's choice: log 2). -/
def Obligations.AStepRunsTheCommandAtTheFront : Prop :=
  (∀ (c : Instr) (cs : List Instr) (s : State), s.pending = c :: cs → step s = exec c { s with pending := cs }) ∧
  (∀ s : State, s.pending = [] →
    (s.part.awake = true → step s = .next { s with part.clock := s.part.clock + 1 }) ∧
    (s.part.awake = false → step s = .next s))

/-- The machine right after reset meets the invariants of the map, the learned tables and the control under cycle
lock. -/
def Obligations.ResetIsSound : Prop :=
  State.reset.MapOk ∧ State.reset.part.TablesOk ∧ State.reset.part.DrivenLocked ∧ State.reset.part.xu.NotesOk

/-- Every step keeps the map: the canonical form, the reserved words at 0, nothing at the registers, the identity words
(R134, R135). -/
def Obligations.EveryStepKeepsTheMap : Prop := ∀ s t : State, s.MapOk → step s = .next t → t.MapOk

/-- Every step keeps the learned tables in their ranges (R40, R82). -/
def Obligations.EveryStepKeepsTheLearnedTables : Prop :=
  ∀ s t : State, s.part.TablesOk → step s = .next t → t.part.TablesOk

/-- Every step keeps this: a phaser is UNLOCKING, TRACKING, HOLDING or RETURNING only in CYCLE_LOCKED (R65). -/
def Obligations.EveryStepKeepsControlUnderCycleLock : Prop :=
  ∀ s t : State, s.part.DrivenLocked → step s = .next t → t.part.DrivenLocked

/-- No command changes a word of a page that is held before it and after it (R134, R136). -/
def Obligations.AHeldPageKeepsItsWords : Prop :=
  ∀ (c : Instr) (s t : State) (page : Fin 2), s.mem.wf = true → s.part.heldPage = some page → exec c s = .next t →
    t.part.heldPage = some page → ∀ x, x < 256 → t.mem.read (pageBase page + x) = s.mem.read (pageBase page + x)

/-- The events of the engine, of the output stage and of the clocks change no word of the exchange memory, no held
access and no waiting command: the part's records change the memory at RECORD_WORD_WRITE alone (R150). The events of
the output stage are outward besides: they leave the Angle Unit, the passes, both learned tables, the demand, the
configuration, the power state, every phaser's measured figures (R157) and every selector's plan trace as they were,
cancel matches at most, and hand records over behind those that wait. -/
def Obligations.EventsActOnTheUnitsAlone : Prop :=
  ∀ s : State, s.part.awake = true →
    let units (c : Instr) : Prop := ∃ p, exec c s = .next { s with part := p }
    let outward (c : Instr) : Prop := ∃ p, exec c s = .next { s with part := p } ∧ s.part.Outward p
    (∀ t, units (.crankEdge t)) ∧ units .stall ∧ (∀ i t, units (.camEdge i t)) ∧ (∀ k, units (.matchExpiry k)) ∧
    (∀ t, units (.standbyTick t)) ∧ (∀ n, outward (.pwmPeriodStart n)) ∧ (∀ n x, outward (.onTimeEnd n x)) ∧
    (∀ n x, outward (.overCurrent n x)) ∧ (∀ j, outward (.peakTimerExpiry j)) ∧
    (∀ j x, outward (.selectorCurrentCheck j x)) ∧ (∀ j x, outward (.dipSample j x)) ∧
    (∀ b, outward (.probeJudgement b)) ∧ (∀ x, outward (.stageTemperatureSample x)) ∧ outward .driverStatusRefresh

/-- A stall and the matches of every slot but the adoption slot leave the learned tables, the demand, the
configuration, the power state, the conditions, the offer, the cycle number and every phaser's measured figures as they
were, and bring no phaser under control (R10, R18, R157). -/
def Obligations.StallsAndMatchesAreStill : Prop :=
  ∀ s : State, s.part.awake = true →
    (∃ p, exec .stall s = .next { s with part := p } ∧ s.part.Still p) ∧
    (∀ k : Fin 24, k ≠ 22 → ∃ p, exec (.matchExpiry k) s = .next { s with part := p } ∧ s.part.Still p)

/-! ## Resets, retention and wake (R135, R152 to R156) -/

/-- The power-on reset (R154, R135, R153): the retained region takes its defaults, the part starts STOPPED, in STANDBY
and unconfigured, PORTSTAT shows STANDBY alone with wake cause POWER_ON, and no line is asserted. That the waiting
commands stay, that no access is held and that the bits without a name read 0 are the model's choices (logs 29, 35 and
72). -/
def Obligations.PowerOnResetSetsTheDefaults : Prop :=
  ∀ s : State, ∃ u, exec .powerOnReset s = .next u ∧ u.pending = s.pending ∧ u.held = none ∧
    (∀ n, vget u.part.refTable n = { offset := 0, count := 0 }) ∧
    (∀ n, vget u.part.holdTable n = { value := 500, count := 0 }) ∧
    (∀ a, 0xB00 ≤ a → a < 0xB40 → u.mem.read a = 0) ∧
    (∀ n, n < 32 → u.mem.read (0xA40 + 2 * n) = 500 ∧ u.mem.read (0xA41 + 2 * n) = 0) ∧
    u.mem.read 0x000 = 0x4B ∧ u.mem.read 0x001 = 0x01 ∧ u.part.config = none ∧ u.part.angle.sync = .stopped ∧
    u.part.power.state = .run ∧ u.part.register 0 = 0x4B01 ∧ u.part.register 1 = 0 ∧ u.part.register 2 = 0x0020 ∧
    u.part.register 3 = 0 ∧ u.part.register 4 = 0 ∧ u.part.register 5 = 0 ∧ u.part.register 6 = 0 ∧
    u.part.register 7 = 0 ∧ u.part.flt = false ∧ u.part.attnLine = false ∧ u.wait = false

/-- The RESET line resets the part in every power state, keeps the retained region and closes the port; deasserting it
changes nothing but the line, and the port is open again when the state is RUN (R135, R152, R154). Each wake event
wakes a RETAINED part with its own cause by the reset that keeps the retained region; the crank edge that wakes it is
not taken as a crank edge; the wake timer acts in RETAINED alone, while it runs (R156). Of `State.ResetFrom`, these are
the model's choices: the waiting commands stay (log 29), one summary record waits (log 28), the items the spec gives no
reset value (log 35), and the learned words are written from the tables (log 51). -/
def Obligations.ResetsKeepTheRetainedRegion : Prop :=
  ∀ s : State, s.mem.wf = true →
    (∃ u, exec .resetLine s = .next u ∧ s.ResetFrom .resetLine true u ∧ u.part.portOpen = false) ∧
    (∃ p, exec .resetLineDeasserted s = .next { s with part := p } ∧
      p = { s.part with power.resetLine := false } ∧ (p.portOpen = true ↔ s.part.power.state = .run)) ∧
    (s.part.power.resetLine = false →
      (s.part.power.state = .retained →
        (∀ t, ∃ u, exec (.crankEdge t) s = .next u ∧ s.ResetFrom .crank false u) ∧
        (∃ u, exec .wakeLine s = .next u ∧ s.ResetFrom .wakeLine false u) ∧
        (s.part.power.wakeTimer.isSome = true →
          ∃ u, exec .wakeTimerExpiry s = .next u ∧ s.ResetFrom .timer false u)) ∧
      (s.part.power.state ≠ .retained ∨ s.part.power.wakeTimer = none → exec .wakeTimerExpiry s = .next s) ∧
      (s.part.power.state = .run → exec .wakeLine s = .next s))

/-- A wake event in ENTERING abandons the entry: RUN, the discharge withdrawn, the port open, WAKE_ABORT set, no reset;
an accepted crank edge is also taken as the first edge of R5 (R155). -/
def Obligations.AWakeEventAbandonsAnEntry : Prop :=
  ∀ s : State, s.part.power.state = .entering → s.part.power.resetLine = false →
    (∃ p, exec .wakeLine s = .next { s with part := p } ∧
      { s.part with power.state := .run }.Outward p ∧ p.stage.discharge = false ∧ p.portOpen = true ∧
      p.xu.attn.getLsbD 7 = true ∧ p.portctl.getLsbD 0 = false) ∧
    (∀ t, s.part.angle.sync = .stopped → s.part.angle.prev = none →
      ∃ p, exec (.crankEdge t) s = .next { s with part := p } ∧ p.power = { s.part.power with state := .run } ∧
        p.stage.discharge = false ∧ p.portOpen = true ∧ p.xu.attn.getLsbD 7 = true ∧ p.portctl.getLsbD 0 = false ∧
        p.angle.sync = .seeking ∧ p.angle.last = some t ∧ p.angle.prev = none ∧ p.angle.history = [])

/-- A retention request stores HALT_LEARN (R153; that it does so before RETAIN is judged is log 36) and ends an access
held before (DEDUCED, log 7). Accepted, RETAIN reads 1, the state is ENTERING, the port closes, and every channel goes
to OFF with discharge set. Refused, RETAIN reads 0, the state stays RUN, RETAIN_REFUSED is set and a note on unit 13
gives the first failing condition: 0 NOT_STOPPED, 1 NOT_STANDBY, 2 PROBE_RUNNING. The first discharge check that finds
every output below 10 mA ends the entry: RETAINED, with the wake timer running when WAKETIME is not 0, the retained
region kept and the rest of the part lost, so that ATTN and FLT are deasserted (the values that stand for what is lost
are the model's choice: log 4, and logs 28, 29, 35 and 51 as at a reset). A check that finds an output at 10 mA or
more, or comes outside an entry, changes nothing (R120, R155). -/
def Obligations.RetentionIsEnteredOrRefused : Prop :=
  ∀ s : State,
    (∀ halt : Bool, s.part.portOpen = true →
      (s.part.angle.sync = .stopped → s.part.standby = true → s.part.stage.probe = none →
        ∃ p, exec (.retainRequest halt) s = .next { s with held := none, part := p } ∧
          { s.part with power.state := .entering, xu.haltLearn := halt }.Outward p ∧ p.stage.discharge = true ∧
          (∀ n, (vget p.channels n).mode = .off) ∧ p.portctl.getLsbD 0 = true ∧ p.portOpen = false) ∧
      (∀ why : Nat, (s.part.angle.sync ≠ .stopped ∧ why = 0) ∨
          (s.part.angle.sync = .stopped ∧ s.part.standby = false ∧ why = 1) ∨
          (s.part.angle.sync = .stopped ∧ s.part.standby = true ∧ s.part.stage.probe ≠ none ∧ why = 2) →
        ∃ p, exec (.retainRequest halt) s = .next { s with held := none, part := p } ∧
          p = ({ s.part with xu.haltLearn := halt }.setCause .retainRefused).note .retainRefused 13
            { w9 := BitVec.ofNat 16 why, w10 := 0 } ∧
          p.power = s.part.power ∧ p.portctl.getLsbD 0 = false ∧ p.xu.attn.getLsbD 6 = true)) ∧
    (∀ currents : Vector Nat 6, s.part.awake = true →
      (s.mem.wf = true → s.part.power.state = .entering → s.part.stage.discharge = true →
        (∀ n, vget currents n < 10) →
        ∃ v u, s.ResetFrom s.part.power.wakeCause s.part.power.resetLine v ∧
          u = { v with part.power := { s.part.power with
            state := .retained,
            wakeTimer := if s.part.power.waketime = 0 then none else some s.part.power.waketime.toNat } } ∧
          exec (.dischargeCheck currents) s = .next u ∧ u.part.attnLine = false ∧ u.part.flt = false ∧
          u.part.portOpen = false ∧ u.part.awake = false) ∧
      (s.part.power.state = .run ∨ s.part.stage.discharge = false ∨ (∃ n, 10 ≤ vget currents n) →
        exec (.dischargeCheck currents) s = .next s))

/-! ## The port and its registers (R151 to R153) -/

/-- While the port is closed, in ENTERING, in RETAINED and while the RESET line is asserted, a write is ignored and
sets no PROTECTED_WRITE, a read returns 0, and WAIT is not asserted (R152). On an open port a write to a word of the
record being written is held with WAIT, stores nothing and sets nothing, and the end of the access by chip select
leaves it not stored; a read of such a word is held with WAIT and returns nothing yet, any other read returns its word
or register, and no read changes anything else (R150, R152). A read begins from outside, as the table has no row for it
(DESIGN CHOICE, log 70). An access held before has ended, not stored (DEDUCED, log 7). -/
def Obligations.AnAccessIsIgnoredOrHeld : Prop :=
  ∀ s : State,
    (s.part.power.state ≠ .run ∨ s.part.power.resetLine = true → s.wait = false ∧
      (∀ a, s.portRead a = { s with readData := some 0 }) ∧
      (∀ a v, exec (.exchangeMemoryWrite a v) s = .next s) ∧ (∀ off v, exec (.learnedTableWrite off v) s = .next s) ∧
      (∀ page seq, exec (.offer page seq) s = .next s) ∧ (∀ page, exec (.withdrawOffer page) s = .next s) ∧
      (∀ m, exec (.noteFree m) s = .next s) ∧ exec .snapshotRequest s = .next s ∧ exec .snapshotRelease s = .next s ∧
      (∀ h, exec (.retainRequest h) s = .next s) ∧ (∀ h, exec (.haltLearnWrite h) s = .next s) ∧
      (∀ v, exec (.protectedWriteClear v) s = .next s) ∧ (∀ v, exec (.attnClear v) s = .next s) ∧
      (∀ v, exec (.attnenWrite v) s = .next s) ∧ (∀ r v, exec (.registerWrite r v) s = .next s)) ∧
    (∀ (r : Record) (rs : List Record), s.part.portOpen = true → s.part.xu.records = r :: rs →
      (∀ (addr : Addr) (v : Word), addr.toNat < 0xFF8 → r.kind.covers addr.toNat = true →
        exec (.exchangeMemoryWrite addr v) s = .next { s with held := some (.write addr v) }) ∧
      (∀ (off : BitVec 8) (v : Word), r.kind.covers (0xA00 + off.toNat) = true →
        exec (.learnedTableWrite off v) s =
          .next { s with held := some (.write (BitVec.ofNat 12 (0xA00 + off.toNat)) v) }) ∧
      (∀ m : Fin 16, r.kind = .note m → exec (.noteFree m) s =
        .next { s with held := some (.write (BitVec.ofNat 12 (0x400 + 16 * m.val)) 0) }) ∧
      (∀ addr : Addr, addr.toNat < 0xFF8 → r.kind.covers addr.toNat = true →
        s.portRead addr = { s with held := some (.read addr), readData := none } ∧ (s.portRead addr).wait = true)) ∧
    (s.part.portOpen = true →
      (∀ addr : Addr, addr.toNat < 0xFF8 →
        (∀ (r : Record) (rs : List Record), s.part.xu.records = r :: rs → r.kind.covers addr.toNat = false) →
        s.portRead addr = { s with held := none, readData := some (s.mem.read addr.toNat) }) ∧
      (∀ r : Fin 8, s.portRead (BitVec.ofNat 12 (0xFF8 + r.val)) =
        { s with held := none, readData := some (s.part.register r) })) ∧
    exec .accessAbandoned s = .next { s with held := none }

/-- The register writes of Table 10-1 on an open port: PORTCTL with RETAIN 0 stores HALT_LEARN; PORTSTAT with bit 2 set
clears PROTECTED_WRITE, whatever its other bits, and without it takes nothing (log 20); a 1 written to a bit of ATTN
clears that cause and a 0 leaves it; ATTNEN and WAKETIME take what is written; IDENT, CYCLE and FLTSTAT ignore the
write and PROTECTED_WRITE is set (R151 to R154). A bit that Table 10-1 does not name is not kept (DESIGN CHOICE, log
72). An access held before has ended (DEDUCED, log 7). -/
def Obligations.RegisterWritesTakeTheirFields : Prop :=
  ∀ (s : State) (w : Word), s.part.portOpen = true →
    (∀ halt, exec (.haltLearnWrite halt) s = .next { s with held := none, part.xu.haltLearn := halt }) ∧
    exec (.protectedWriteClear w) s = .next { s with held := none, part.xu.protectedWrite := false } ∧
    (∃ x : BitVec 8, exec (.attnClear w) s = .next { s with held := none, part.xu.attn := x } ∧
      ∀ n, n < 8 → x.getLsbD n = (s.part.xu.attn.getLsbD n && !w.getLsbD n)) ∧
    (∃ x : BitVec 8, exec (.attnenWrite w) s = .next { s with held := none, part.xu.attnen := x } ∧
      ∀ n, n < 8 → x.getLsbD n = w.getLsbD n) ∧
    exec (.registerWrite 6 w) s = .next { s with held := none, part.power.waketime := w } ∧
    (∀ r : Fin 8, r = 0 ∨ r = 5 ∨ r = 7 →
      exec (.registerWrite r w) s = .next { s with held := none, part.xu.protectedWrite := true }) ∧
    (w.getLsbD 2 = false → exec (.registerWrite 2 w) s = .next { s with held := none })

/-- ATTN is asserted exactly while some cause is both set and enabled (R151). FLTSTAT shows a kind exactly when it
reports on LINE and is latched or present on some unit, and FLT is asserted exactly when some kind does (R129). -/
def Obligations.TheLinesShowTheirCauses : Prop :=
  ∀ p : Part,
    (p.attnLine = true ↔ ∃ c : Cause, p.xu.attn.getLsbD c.bit = true ∧ p.xu.attnen.getLsbD c.bit = true) ∧
    (∀ k : Kind, p.fltstat.has k = true ↔
      p.cfg.line.has k = true ∧ ∃ u, p.isLatched k u = true ∨ p.isPresent k u = true) ∧
    (p.flt = true ↔ ∃ k : Kind, p.fltstat.has k = true)

/-! ## Host writes to the exchange memory (R134, R136, R147, R148, R152, R154) -/

/-- A write to a conditions word, an extremes item, a named word of a page that is not held, or the scratch area is
stored; no other word changes (R134). A record that waits takes the word too (DEDUCED, log 6), and an access held
before has ended (DEDUCED, log 7). -/
def Obligations.PlainHostWritesAreStored : Prop :=
  ∀ (s : State) (addr : Addr) (v : Word), s.mem.wf = true → s.part.portOpen = true →
    s.part.inWriting addr.toNat = false →
    ((0x008 ≤ addr.toNat ∧ addr.toNat ≤ 0x00A) ∨ (0x040 ≤ addr.toNat ∧ addr.toNat < 0x060 ∧ addr.toNat % 8 < 6) ∨
      (∃ (page : Fin 2) (o : Nat), o < 256 ∧ addr.toNat = pageBase page + o ∧ pageNamed o = true ∧
        s.part.heldPage ≠ some page) ∨
      (0xB00 ≤ addr.toNat ∧ addr.toNat < 0xB40)) →
    ∃ m, s.mem.Stored addr.toNat v m ∧ exec (.exchangeMemoryWrite addr v) s =
      .next { s with mem := m, held := none,
                     part := { s.part with xu.records := s.part.xu.records.map (Record.amend addr.toNat v) } }

/-- A write to an unassigned word is ignored and leaves PROTECTED_WRITE as it is; a write to a read-only word, to the
last two words of an extremes record (log 22), to a word of a held page, to a word of a page that no layout names (log
22), or to a word of a note other than its state word is ignored and sets it (R134). So is a write to the learned
tables outside STANDBY with sync STOPPED, or to a word no entry has (R84). In each case an access held before has ended
(DEDUCED, log 7). -/
def Obligations.OtherHostWritesAreIgnored : Prop :=
  ∀ (s : State) (addr : Addr) (v : Word), s.part.portOpen = true → s.part.inWriting addr.toNat = false →
    ((0x07E ≤ addr.toNat ∧ addr.toNat < 0x100) ∨ (0xB40 ≤ addr.toNat ∧ addr.toNat < 0xFF8) →
      exec (.exchangeMemoryWrite addr v) s = .next { s with held := none }) ∧
    ((addr.toNat < 0x002 ∨ (0x003 ≤ addr.toNat ∧ addr.toNat < 0x008) ∨ addr.toNat = 0x00B ∨
        (0x00D ≤ addr.toNat ∧ addr.toNat < 0x040) ∨ (0x060 ≤ addr.toNat ∧ addr.toNat < 0x07E) ∨
        (0x040 ≤ addr.toNat ∧ addr.toNat < 0x060 ∧ 6 ≤ addr.toNat % 8) ∨
        (0x300 ≤ addr.toNat ∧ addr.toNat < 0x400) ∨
        (0x400 ≤ addr.toNat ∧ addr.toNat < 0x500 ∧ addr.toNat % 16 ≠ 0) ∨
        (0x500 ≤ addr.toNat ∧ addr.toNat < 0xA00) ∨
        (∃ (page : Fin 2) (o : Nat), o < 256 ∧ addr.toNat = pageBase page + o ∧
          (pageNamed o = false ∨ s.part.heldPage = some page))) →
      exec (.exchangeMemoryWrite addr v) s =
        .next { s with held := none, part := { s.part with xu.protectedWrite := true } }) ∧
    (∀ off : BitVec 8, addr.toNat = 0xA00 + off.toNat →
      s.part.standby = false ∨ s.part.angle.sync ≠ .stopped ∨ (0x20 ≤ off.toNat ∧ off.toNat < 0x40) ∨
        0x80 ≤ off.toNat →
      exec (.learnedTableWrite off v) s =
        .next { s with held := none, part := { s.part with xu.protectedWrite := true } })

/-- A write to a learned-table word in STANDBY with sync STOPPED: an offset is stored within −40 to 40, a hold value
within hold_min to hold_max of the phaser while a configuration is active and within 0 to 1000 while none is, a count
up to 255; the other word of the entry keeps its value and no other entry and no other word changes (R40, R84, R134,
R154). A record of the entry that waits takes the word too (DEDUCED, log 6), and an access held before has ended
(DEDUCED, log 7). -/
def Obligations.LearnedTableWritesAreClamped : Prop :=
  ∀ (s : State) (off : BitVec 8) (v : Word), s.mem.wf = true → s.part.portOpen = true → s.part.standby = true →
    s.part.angle.sync = .stopped → s.part.inWriting (0xA00 + off.toNat) = false →
    let a := 0xA00 + off.toNat
    let becomes (w : Word) (refs : Vector RefEntry 16) (holds : Vector HoldEntry 32) : Prop :=
      ∃ m, s.mem.Stored a w m ∧ exec (.learnedTableWrite off v) s =
        .next { s with mem := m, held := none, part := { s.part with
          refTable := refs, holdTable := holds, xu.records := s.part.xu.records.map (Record.amend a w) } }
    (∀ n : Fin 16, off.toNat = 2 * n.val →
      let x := max (-40) (min 40 v.toInt)
      becomes (BitVec.ofInt 16 x) (vset s.part.refTable n { vget s.part.refTable n with offset := x })
        s.part.holdTable) ∧
    (∀ n : Fin 16, off.toNat = 2 * n.val + 1 →
      let x := min v.toNat 255
      becomes (BitVec.ofNat 16 x) (vset s.part.refTable n { vget s.part.refTable n with count := x })
        s.part.holdTable) ∧
    (∀ (i : Fin 4) (band : Fin 8), off.toNat = 0x40 + 2 * (8 * i.val + band.val) →
      let n := holdIndex i band.val
      (∀ lo hi : Nat, lo ≤ hi → (s.part.config = none ∧ lo = 0 ∧ hi = 1000) ∨
          (∃ c, s.part.config = some c ∧ lo = (vget c.phasers i).holdMin ∧ hi = (vget c.phasers i).holdMax) →
        let x := max lo (min hi v.toNat)
        becomes (BitVec.ofNat 16 x) s.part.refTable
          (vset s.part.holdTable n { vget s.part.holdTable n with value := x }))) ∧
    (∀ (i : Fin 4) (band : Fin 8), off.toNat = 0x41 + 2 * (8 * i.val + band.val) →
      let n := holdIndex i band.val
      let x := min v.toNat 255
      becomes (BitVec.ofNat 16 x) s.part.refTable
        (vset s.part.holdTable n { vget s.part.holdTable n with count := x }))

/-- A write to the offer word with a new sequence. Non-zero, the word takes it, the offer is pending and its page held,
prompt when the page is a targets page whose prompt word is 1; an offer it supersedes goes to LAST_DROPPED with the
verdict record. Sequence 0 withdraws: a pending offer goes to LAST_DROPPED in the same way, and with none pending only
the word changes. A write with the sequence the word holds is ignored (R136). An access held before has ended (DEDUCED,
log 7). -/
def Obligations.OfferWordWritesOfferAndWithdraw : Prop :=
  ∀ (s : State) (page : Fin 2) (seq : BitVec 15), s.mem.wf = true → s.part.portOpen = true →
    let o : Offer := { page := page, seq := seq,
                       prompt := decide (s.mem.read (pageBase page) = 2 ∧ s.mem.read (pageBase page + 2) = 1) }
    let kept := s.part.xu.offer = none
    (seq ≠ 0 → (s.mem.read 0x002).setWidth 15 ≠ seq →
      ∃ m p, exec (.offer page seq) s = .next { s with mem := m, held := none, part := p } ∧
        s.mem.Stored 0x002 (BitVec.ofNat 16 (32768 * page.val + seq.toNat)) m ∧ (m.read 0x002).setWidth 15 = seq ∧
        (m.read 0x002).getLsbD 15 = decide (page = 1) ∧ p.heldPage = some page ∧
        (kept → p = { s.part with xu.offer := some o }) ∧
        (∀ old, s.part.xu.offer = some old →
          p = { s.part with xu.offer := some o, xu.lastDropped := old.seq,
                            xu.records := s.part.xu.records ++ [s.part.xu.dropRecord old.seq] })) ∧
    ((s.mem.read 0x002).setWidth 15 ≠ (0 : BitVec 15) →
      ∃ m p, exec (.withdrawOffer page) s = .next { s with mem := m, held := none, part := p } ∧
        s.mem.Stored 0x002 (BitVec.ofNat 16 (32768 * page.val)) m ∧ (kept → p = s.part) ∧
        (∀ old, s.part.xu.offer = some old →
          p = { s.part with xu.offer := none, xu.lastDropped := old.seq,
                            xu.records := s.part.xu.records ++ [s.part.xu.dropRecord old.seq] })) ∧
    ((s.mem.read 0x002).setWidth 15 = seq → exec (.offer page seq) s = .next { s with held := none }) ∧
    ((s.mem.read 0x002).setWidth 15 = (0 : BitVec 15) → exec (.withdrawOffer page) s = .next { s with held := none })

/-- 0 written to a state word frees a FILLED note and clears NOTES_WITHHELD, the slot's other words staying; it changes
nothing at a FREE note; any other value is ignored and sets PROTECTED_WRITE (R147). A record of the note that waits
takes the 0 too (DEDUCED, log 6), and an access held before has ended (DEDUCED, log 7). -/
def Obligations.NoteFreeFreesTheSlot : Prop :=
  ∀ (s : State) (slot : Fin 16), s.mem.wf = true → s.part.portOpen = true →
    s.part.inWriting (0x400 + 16 * slot.val) = false →
    ((vget s.part.xu.notes slot).filled = true →
      ∃ m, s.mem.Stored (0x400 + 16 * slot.val) 0 m ∧ exec (.noteFree slot) s =
        .next { s with mem := m, held := none, part := { s.part with
          xu.notes := vset s.part.xu.notes slot { vget s.part.xu.notes slot with filled := false },
          xu.notesWithheld := false,
          xu.records := s.part.xu.records.map (Record.amend (0x400 + 16 * slot.val) 0) } }) ∧
    ((vget s.part.xu.notes slot).filled = false → exec (.noteFree slot) s = .next { s with held := none }) ∧
    (∀ v : Word, v ≠ 0 → exec (.exchangeMemoryWrite (BitVec.ofNat 12 (0x400 + 16 * slot.val)) v) s =
      .next { s with held := none, part := { s.part with xu.protectedWrite := true } })

/-- Snapshot control (R148): REQUEST makes a FREE word PENDING and is ignored otherwise; 0 releases a READY area,
withdraws a PENDING request with no capture, and changes nothing when FREE; any other value is ignored and sets
PROTECTED_WRITE; after any reset the word is FREE and the area 0. A 0 that comes after the capture was taken and before
its record is complete finds the word PENDING still: the record is marked, and its completion releases the word (R149;
DEDUCED, log 30). An access held before a write has ended (DEDUCED, log 7). -/
def Obligations.SnapshotControlFollowsItsWrites : Prop :=
  ∀ s : State, s.mem.wf = true →
    (s.part.portOpen = true →
      (s.mem.read 0x00C = 0 → ∃ m, s.mem.Stored 0x00C 1 m ∧
        exec .snapshotRequest s = .next { s with mem := m, held := none }) ∧
      (s.mem.read 0x00C ≠ 0 → exec .snapshotRequest s = .next { s with held := none }) ∧
      (s.mem.read 0x00C = 2 → ∃ m, s.mem.Stored 0x00C 0 m ∧
        exec .snapshotRelease s = .next { s with mem := m, held := none }) ∧
      (s.mem.read 0x00C = 1 → (∀ r ∈ s.part.xu.records, r.kind ≠ .snapshot) → ∃ m, s.mem.Stored 0x00C 0 m ∧
        exec .snapshotRelease s = .next { s with mem := m, held := none }) ∧
      (s.mem.read 0x00C = 1 → (∃ r ∈ s.part.xu.records, r.kind = .snapshot) → exec .snapshotRelease s =
        .next { s with held := none, part := { s.part with
          xu.records := s.part.xu.records.map fun r => if r.kind = .snapshot then { r with released := true } else r } }) ∧
      (s.mem.read 0x00C = 0 → exec .snapshotRelease s = .next { s with held := none }) ∧
      (∀ v : Word, v ≠ 0 → v ≠ 1 → exec (.exchangeMemoryWrite 0x00C v) s =
        .next { s with held := none, part := { s.part with xu.protectedWrite := true } })) ∧
    (∀ u, exec .powerOnReset s = .next u ∨ exec .resetLine s = .next u ∨
        (s.part.power.state = .retained ∧ s.part.power.resetLine = false ∧
          (exec .wakeLine s = .next u ∨ (∃ t, exec (.crankEdge t) s = .next u) ∨
            (s.part.power.wakeTimer.isSome = true ∧ exec .wakeTimerExpiry s = .next u))) →
      u.mem.read 0x00C = 0 ∧ ∀ a, 0x900 ≤ a → a < 0xA00 → u.mem.read a = 0)

/-! ## Records and notes (R146, R149, R150) -/

/-- One tick of record writing stores the next word of the record at the front and no other. While words are left,
nothing else changes. The last word completes the record and the next in hand-over order follows: a journal record then
stores the newest index, sets CYCLE and has the offer of its match answered, when it was pending and the part stayed in
CYCLE_LOCKED (the moment is log 5, DEDUCED); a note sets NOTE; a snapshot makes the control word READY and sets
SNAPSHOT, and one whose release was written meanwhile leaves the word FREE (log 30, DEDUCED). An access the record held
then takes effect: a read returns its word of the complete record, whatever record comes next (that the access comes
after what follows the last word, and that the word stays until the next read, is log 70, DESIGN CHOICE), and a write
is decided, as on one of its words, also in a record of it that waits (log 6, DEDUCED); any other held access stays
(R150, R152). With no record waiting nothing changes (R145, R146, R149, R150). -/
def Obligations.RecordsAreWrittenOneWordPerTick : Prop :=
  ∀ s : State, s.mem.wf = true → s.part.awake = true →
    (s.part.xu.records = [] → exec .recordWordWrite s = .next s) ∧
    (∀ (r : Record) (rs : List Record), s.part.xu.records = r :: rs → r.done < r.kind.len →
      ∃ m, s.mem.Stored (r.kind.base + r.done) (r.words.getD r.done 0) m ∧
        let after (m' : Mem) (causes : BitVec 8) : State :=
          { s with mem := m', part.xu.records := rs, part.xu.attn := s.part.xu.attn ||| causes }
        (r.done + 1 < r.kind.len → exec .recordWordWrite s =
          .next { s with mem := m, part := { s.part with xu.records := { r with done := r.done + 1 } :: rs } }) ∧
        (r.done + 1 = r.kind.len → ∃ done : State,
          (∀ i, r.kind = .journal i → ∃ m', m.Stored 0x00E (wordOfNat i.val) m' ∧
            let owed := s.part.xu.examineOwed
            (owed ≤ rs.countP (fun r => r.kind.isJournal) → done = after m' 0x10) ∧
            (rs.countP (fun r => r.kind.isJournal) < owed →
              let q := { (after m' 0x10).part with xu.examineOwed := owed - 1 }
              (s.part.xu.offer = none → done = { after m' 0x10 with part := q }) ∧
              (∀ o, s.part.xu.offer = some o → done = { after m' 0x10 with part := q.answerOffer m' o }))) ∧
          (∀ i, r.kind = .note i → done = after m 0x01) ∧
          (r.kind = .snapshot → ∃ m', m.Stored 0x00C (if r.released then 0 else 2) m' ∧ done = after m' 0x08) ∧
          ((∀ i, r.kind ≠ .journal i) → (∀ i, r.kind ≠ .note i) → r.kind ≠ .snapshot → done = after m 0) ∧
          (s.held = none → exec .recordWordWrite s = .next done) ∧
          (∀ h, s.held = some h → r.kind.covers h.addr.toNat = false → exec .recordWordWrite s = .next done) ∧
          (∀ a, s.held = some (.read a) → r.kind.covers a.toNat = true → exec .recordWordWrite s =
            .next { done with held := none, readData := some (done.mem.read a.toNat) }) ∧
          (∀ a v, s.held = some (.write a v) → r.kind.covers a.toNat = true →
            exec .recordWordWrite s = .next ({ done with held := none }.decideWrite a.toNat v) ∧
            (∀ i, r.kind = .extremes i → a.toNat % 8 < 6 → ∃ m', m.Stored a.toNat v m' ∧
              exec .recordWordWrite s = .next { s with
                mem := m', held := none, part.xu.records := rs.map (Record.amend a.toNat v) }))))

/-- A note merges into the FILLED slot of its kind and unit, else fills the FREE slot with the lowest index under the
next fill number, else is withheld; the list keeps distinct kind and unit pairs and repeat counts within 1 to 255
(R146). -/
def Obligations.NotesMergeFillOrAreWithheld : Prop :=
  ∀ (p : Part) (k : NoteKind) (u : Unit15) (d : Detail), p.xu.NotesOk →
    (p.note k u d).xu.NotesOk ∧
    (∀ m, (vget p.xu.notes m).filled = true → (vget p.xu.notes m).kind = k → (vget p.xu.notes m).unit = u →
      let n := { vget p.xu.notes m with
                 last := p.xu.cycle, count := min ((vget p.xu.notes m).count + 1) 255, detail := d }
      let r : Record := { kind := .note m, done := 0, words := n.words, released := false }
      p.note k u d = { p with xu.notes := vset p.xu.notes m n, xu.records := p.xu.records ++ [r] }) ∧
    ((∀ m, (vget p.xu.notes m).filled = true → ¬((vget p.xu.notes m).kind = k ∧ (vget p.xu.notes m).unit = u)) →
      (∀ m, (vget p.xu.notes m).filled = false → (∀ l, l < m → (vget p.xu.notes l).filled = true) →
        let n : NoteSlot := { filled := true, kind := k, unit := u, number := p.xu.fillCount + 1, first := p.xu.cycle,
                              last := p.xu.cycle, count := 1, detail := d }
        let r : Record := { kind := .note m, done := 0, words := n.words, released := false }
        p.note k u d =
          { p with xu.notes := vset p.xu.notes m n, xu.fillCount := p.xu.fillCount + 1,
                   xu.records := p.xu.records ++ [r] }) ∧
      ((∀ m, (vget p.xu.notes m).filled = true) → p.note k u d = { p with xu.notesWithheld := true }))

/-! ## Crank edges, stall and marks (R1 to R15, R18) -/

/-- A crank edge too soon after the last accepted edge changes no Angle Unit state and is reported as an EDGE_REJECTED
note on the sync unit, with the interval held at 65535 (R3). -/
def Obligations.AnEarlyCrankEdgeIsRejected : Prop :=
  ∀ (s : State) (t l : Tick) (ip : Nat), s.part.awake = true → s.part.angle.last = some l →
    s.part.angle.prev = some ip → 4 * (t - l).toNat < ip →
    ∃ p, exec (.crankEdge t) s = .next { s with part := p } ∧
      p = { s.part with clock := t }.note .edgeRejected 12
        { w9 := BitVec.ofNat 16 (min (t - l).toNat 65535), w10 := 0 } ∧
      p.angle = s.part.angle ∧ p.power = s.part.power

/-- In STOPPED an accepted crank edge moves the Angle Unit to SEEKING: the history is emptied, the edge becomes the
last accepted edge with no previous interval, and the Exchange Unit records the change (R5, R21). -/
def Obligations.TheFirstCrankEdgeStartsSeeking : Prop :=
  ∀ (s : State) (t : Tick), s.part.awake = true → s.part.angle.sync = .stopped → s.part.angle.rejects t = false →
    ∃ p, exec (.crankEdge t) s = .next { s with part := p } ∧ p.angle.sync = .seeking ∧ p.angle.history = [] ∧
      p.angle.last = some t ∧ p.angle.prev = none ∧ p.portstat.extractLsb' 6 2 = (1 : BitVec 2) ∧
      p.xu.attn.getLsbD 5 = true ∧
      ∃ r ∈ p.xu.records, r.kind = .angle ∧ r.done = 0 ∧ r.words = p.angleWords

/-- In SEEKING, an accepted edge is recorded by R4. With no previous interval the edge is tested no further, and the
interval it ends becomes the previous one. An interval of at most half the gap candidate confirms it: CRANK_LOCKED at
tooth 1 with the mark flags cleared (one of them the model's own, log 16), rev_ticks and speed as they were (DEDUCED,
log 32), and the mark-window match asked for when Mo ≤ Mc: placed by R17 alone, so that one at the tooth's own angle,
Mc = 150, is not examined by R18 and waits for the next circle (DEDUCED, log 9). Any other interval becomes the gap
candidate exactly when it is 2 to 4.5 times the previous interval (R4, R6, R13, R21). -/
def Obligations.SeekingFindsTheGap : Prop :=
  ∀ (s : State) (t l : Tick), s.part.awake = true → s.part.power.state = .run →
    s.part.angle.sync = .seeking → s.part.angle.last = some l →
    let i := (t - l).toNat
    let recorded := { s.part.angle with
      last := some t, prev := some i, stall := some (t + BitVec.ofNat 24 (s.part.cfg.stallMs * 8000)),
      history := (if s.part.angle.history.length < 22 then s.part.angle.history else s.part.angle.history.tail) ++ [i] }
    (s.part.angle.prev = none →
      exec (.crankEdge t) s = .next { s with part := { s.part with clock := t, angle := recorded } }) ∧
    (∀ ip, s.part.angle.prev = some ip → ip ≤ 4 * i →
      ((∀ g, s.part.angle.candidate = some g → g < 2 * i) →
        exec (.crankEdge t) s = .next { s with part := { s.part with
          clock := t,
          angle := { recorded with candidate := if 2 * ip ≤ i ∧ 2 * i ≤ 9 * ip then some i else none } } }) ∧
      (∀ g, s.part.angle.candidate = some g → 2 * i ≤ g →
        ∃ p, exec (.crankEdge t) s = .next { s with part := p } ∧ s.part.Still p ∧
          p.angle = { recorded with
            sync := .crankLocked, candidate := none, tooth := 1, rev := .unknown, t0 := t, a0 := 150, pp := i,
            span := 150, markSeen := false, markedA := false, missCount := 0, noMarkRaised := false,
            markInRev := false } ∧
          p.xu.attn.getLsbD 5 = true ∧
          (∀ w, s.part.angle.window = some w → w.mo ≤ w.mc →
            vget p.slots 23 = p.angle.place t w.mc .revolution)))

/-- An accepted tooth in CRANK_LOCKED or CYCLE_LOCKED advances the tooth index, 21 to 0 across the gap, sets t0, Pp and
span, gives a0 the tooth's angle in the revolution then in force, changes the revolution at tooth 0 in CYCLE_LOCKED,
keeps the last 22 intervals, and with 22 of them takes rev_ticks and speed from their sum (R1, R4, R8, R9). -/
def Obligations.AnAcceptedToothSetsTheLastToothValues : Prop :=
  ∀ (s : State) (t l : Tick) (ip : Nat), s.part.awake = true → s.part.power.state = .run →
    s.part.angle.sync = .crankLocked ∨ s.part.angle.sync = .cycleLocked →
    s.part.angle.last = some l → s.part.angle.prev = some ip → s.part.angle.tooth ≤ 21 →
    let i := (t - l).toNat
    let g := s.part.angle
    let h := (if g.history.length < 22 then g.history else g.history.tail) ++ [i]
    ip ≤ 4 * i → (g.tooth < 21 → i < 2 * ip) → (g.tooth = 21 → 2 * ip ≤ i ∧ 2 * i ≤ 9 * ip) →
    ∃ p, exec (.crankEdge t) s = .next { s with part := p } ∧ p.clock = t ∧ p.angle.last = some t ∧
      p.angle.prev = some i ∧ p.angle.history = h ∧
      (p.angle.sync = .crankLocked ∨ p.angle.sync = .cycleLocked) ∧
      p.angle.tooth = (if g.tooth = 21 then 0 else g.tooth + 1) ∧ p.angle.t0 = t ∧
      p.angle.pp = (if g.tooth = 21 then i / 3 else i) ∧ p.angle.span = (if g.tooth = 20 then 450 else 150) ∧
      p.angle.a0 = 150 * p.angle.tooth + (if p.angle.sync = .cycleLocked ∧ p.angle.rev = .b then 3600 else 0) ∧
      (g.sync = .cycleLocked → p.angle.sync = .cycleLocked →
        p.angle.rev = if g.tooth = 21 then g.rev.other else g.rev) ∧
      (h.length = 22 → p.angle.revTicks = h.sum ∧
        p.angle.speed = min (roundHalfUp 480000000 h.sum) 20000) ∧
      (h.length ≠ 22 → p.angle.revTicks = g.revTicks ∧ p.angle.speed = g.speed)

/-- Tooth 0 takes its mark-window steps in this order (R12, R13, R14, R24; order with a waiting window: DEDUCED, log
15). A wrapped window, Mc < Mo, is checked here, at each tooth 0 in CRANK_LOCKED and at the one that ends revolution A
in CYCLE_LOCKED: a mark seen is cleared; otherwise CRANK_LOCKED counts a miss, the eighth raising CAM_MARK, and
CYCLE_LOCKED counts an anomaly, the second losing cycle lock. Then CRANK_LOCKED decides: a marked revolution with a
window in force gains cycle lock, revolution B, a0 3600, no anomaly counted. Then a waiting new window is taken into
use, in CRANK_LOCKED or at the tooth 0 that begins revolution A (where the part was in CRANK_LOCKED as the tooth came:
log 43), with mark seen and both counts cleared. Slot 23, after a gain or a new window, holds the match at Mc when Mo ≤
Mc, placed by R17 and not examined by R18 at this tooth, also at Mc = a0 (DEDUCED, log 9), and is IDLE for a wrapped
window. The tooth is one at which slot 23 has no match of its own to fire. A new window of "none" in CYCLE_LOCKED
leaves the sync state (log 42). The mark of the revolution in progress is a flag of the model (log 16). A prompt offer
answered at the tooth event leaves the Angle Unit so, but for the waiting window and the stall timer that a
configuration page sets. -/
def Obligations.ToothZeroChecksTheMarkAndDecidesCycleLock : Prop :=
  ∀ (s : State) (t l : Tick) (ip : Nat), s.part.awake = true → s.part.power.state = .run →
    s.part.angle.sync = .crankLocked ∨ s.part.angle.sync = .cycleLocked →
    s.part.angle.last = some l → s.part.angle.prev = some ip → s.part.angle.tooth = 21 →
    ip ≤ 4 * (t - l).toNat → 2 * ip ≤ (t - l).toNat → 2 * (t - l).toNat ≤ 9 * ip →
    let slot := vget s.part.slots 23
    let q := (({ s.part with clock := t }.recordEdge t).angle.toTooth t (t - l).toNat).toSpeed
    let crank := q.sync = .crankLocked
    let wraps := ∃ w, q.window = some w ∧ w.mc < w.mo
    let gains := crank ∧ q.markedA = true ∧ q.window ≠ none
    let takes := q.newWindow ≠ none ∧ (crank ∨ q.rev = .a)
    let checks := wraps ∧ (crank ∨ q.rev = .b)
    let loses := ¬crank ∧ checks ∧ q.markSeen = false ∧ 1 ≤ q.anomalyCount
    let quiet := ∀ o, s.part.xu.offer = some o → o.prompt = false
    (takes ∨ slot = .idle ∨ (gains ∧ slot.kind? ≠ some .cycle) ∨ (loses ∧ slot.kind? = some .cycle) ∨
      (¬gains ∧ ∃ x kind, slot = .waiting x kind ∧ forwardIn kind.circle q.a0 x ≠ 0)) →
    ∃ p, exec (.crankEdge t) s = .next { s with part := p } ∧
      (∀ h : AngleUnit,
        (loses → h = { q with
          sync := .crankLocked, rev := .unknown, a0 := 0, markSeen := false, missCount := 0, noMarkRaised := false,
          markedA := false, markInRev := false, anomalyCount := 2 }) →
        (¬loses → ∃ c d : AngleUnit,
          (¬checks → c = q) ∧ (checks → q.markSeen = true → c = { q with markSeen := false }) ∧
          (checks → q.markSeen = false → crank → c = { q with
            missCount := min (q.missCount + 1) 8, noMarkRaised := q.noMarkRaised || decide (7 ≤ q.missCount) }) ∧
          (checks → q.markSeen = false → ¬crank → c = { q with anomalyCount := 1 }) ∧
          (gains → d = { c with
            sync := .cycleLocked, rev := .b, a0 := 3600, anomalyCount := 0, markedA := false, markInRev := false }) ∧
          (¬gains → crank → d = { c with markedA := false, markInRev := false }) ∧
          (¬gains → ¬crank → d = { c with markInRev := false }) ∧
          (¬takes → h = d) ∧
          (∀ w, takes → q.newWindow = some w → h = { d with
            window := w, newWindow := none, markSeen := false, missCount := 0, anomalyCount := 0 })) →
        p.angle = { h with newWindow := p.angle.newWindow, stall := p.angle.stall } ∧ (quiet → p.angle = h)) ∧
      (takes ∨ (gains ∧ slot.kind? ≠ some .cycle) → vget p.slots 23 = match p.angle.window with
        | some w =>
          if w.mo ≤ w.mc then p.angle.place t w.mc (if p.angle.sync = .cycleLocked then .cycle else .revolution)
          else .idle
        | none => .idle) ∧
      (gains → p.xu.attn.getLsbD 5 = true) ∧
      (loses → p.xu.attn.getLsbD 1 = true ∧ (quiet → p.isLatched .camMark 12 = true)) ∧
      (crank → checks → q.markSeen = false → 7 ≤ q.missCount → q.noMarkRaised = false →
        p.xu.attn.getLsbD 1 = true ∧ (quiet → p.isLatched .camMark 12 = true ∧
          (p.isPresent .camMark 12 = true ↔ ¬gains)))

/-- An interval that fails the wheel test loses crank lock: SEEKING with the detail's SYNC_LOSS latched and present,
the history emptied, step 2 of R6 applied to the interval; from CYCLE_LOCKED every phaser ends PARKED or FAULTED and
every selector LOW or FAULTED (R7, R22, R23). -/
def Obligations.AFailedIntervalLosesCrankLock : Prop :=
  ∀ (s : State) (t l : Tick) (ip : Nat), s.part.awake = true → s.part.power.state = .run →
    s.part.angle.sync = .crankLocked ∨ s.part.angle.sync = .cycleLocked →
    s.part.angle.last = some l → s.part.angle.prev = some ip → s.part.angle.tooth ≤ 21 →
    let i := (t - l).toNat
    ip ≤ 4 * i →
    (s.part.angle.tooth < 21 ∧ 2 * ip ≤ i) ∨ (s.part.angle.tooth = 21 ∧ (i < 2 * ip ∨ 9 * ip < 2 * i)) →
    ∃ p, exec (.crankEdge t) s = .next { s with part := p } ∧ s.part.Still p ∧
      p.angle = { s.part.angle with
        sync := .seeking, last := some t, prev := some i, history := [],
        stall := some (t + BitVec.ofNat 24 (s.part.cfg.stallMs * 8000)),
        candidate := if 2 * ip ≤ i ∧ 2 * i ≤ 9 * ip then some i else none } ∧
      p.isLatched .syncLoss 12 = true ∧ p.isPresent .syncLoss 12 = true ∧ p.xu.attn.getLsbD 1 = true ∧
      p.xu.attn.getLsbD 5 = true ∧ (s.part.angle.sync = .cycleLocked → p.standby = true) ∧
      (∀ k, s.part.angle.sync = .cycleLocked → (vget p.slots k).kind? ≠ some .cycle)

/-- The stall: STOPPED with the values R10 names cleared and the tooth index, t0, a0, Pp and span kept; from a locked
state SYNC_LOSS is latched and not present; the matches are cancelled, and from CYCLE_LOCKED every actuator is put in
its rest state (R10, R20, R22, R23). -/
def Obligations.AStallStopsTheAngleUnit : Prop :=
  ∀ (s : State) (e : Tick), s.part.awake = true → s.part.angle.stall = some e → s.part.angle.sync ≠ .stopped →
    ∃ p, exec .stall s = .next { s with part := p } ∧ s.part.Still p ∧ p.clock = e ∧
      p.angle = { s.part.angle with
        sync := .stopped, speed := 0, revTicks := 0, history := [], candidate := none, prev := none, last := none,
        stall := none, rev := .unknown, markSeen := false, markedA := false, missCount := 0, noMarkRaised := false,
        anomalyCount := 0, markInRev := false } ∧
      p.xu.attn.getLsbD 5 = true ∧
      (s.part.angle.locked = true → p.isLatched .syncLoss 12 = true ∧ p.xu.attn.getLsbD 1 = true) ∧
      p.isPresent .syncLoss 12 = false ∧ p.isPresent .camMark 12 = false ∧
      (s.part.angle.sync = .cycleLocked → p.standby = true) ∧
      (∀ k, (s.part.angle.sync = .cycleLocked → (vget p.slots k).kind? ≠ some .cycle) ∧
        (s.part.angle.sync = .crankLocked → (vget p.slots k).kind? ≠ some .revolution))

/-- A CAM0 edge in the mark window, in no capture window, is a mark. In CRANK_LOCKED the first of a revolution sets
mark seen and marked A, a later one nothing; in CYCLE_LOCKED the first of revolution A is the mark found and ends the
anomalies, any other is an anomaly. The first is kept by a flag of the model, so that a second mark is an anomaly also
after the window check has cleared mark seen (DEDUCED, log 16). A window check that finds the mark seen clears it; in
CRANK_LOCKED one that does not counts a miss, and the eighth raises CAM_MARK; in CYCLE_LOCKED it is an anomaly. The
second anomaly loses cycle lock: CAM_MARK is latched and present, the crank lock, tooth index and Pp are kept, the
revolution is unknown, and a0 becomes the revolution angle (R11 to R14, R22, R23). -/
def Obligations.AMarkIsJudgedInItsRevolution : Prop :=
  ∀ s : State, s.part.awake = true →
    let g := s.part.angle
    (∀ (t : Tick) (w : MarkWindow), g.window = some w →
      let q := min (roundHalfUp ((t - g.t0).toNat * 150) g.pp) (g.span - 1)
      let after (h : AngleUnit) : Prop :=
        exec (.camEdge 0 t) s = .next { s with part := { s.part with clock := t, angle := h } }
      let first := g.rev = .a ∧ g.markInRev = false
      inWindow 3600 w.mo w.mc ((g.a0 + q) % 3600) = true →
      (g.sync = .crankLocked → (g.markedA = false → after { g with markSeen := true, markedA := true }) ∧
        (g.markedA = true → after g)) ∧
      (g.sync = .cycleLocked → s.part.capturing 0 ((g.a0 + q) % 7200) = none →
        (first → after { g with markSeen := true, markInRev := true, anomalyCount := 0 }) ∧
        (¬first → g.anomalyCount = 0 → after { g with anomalyCount := 1 }) ∧
        (¬first → g.anomalyCount = 1 → ∃ p, exec (.camEdge 0 t) s = .next { s with part := p } ∧ s.part.Still p ∧
          p.angle.sync = .crankLocked ∧ p.angle.rev = .unknown ∧ p.angle.a0 = g.a0 % 3600 ∧ p.angle.tooth = g.tooth ∧
          p.angle.pp = g.pp ∧ p.isLatched .camMark 12 = true ∧ p.standby = true))) ∧
    (∀ (x : Nat) (kind : MatchKind) (e : Tick), vget s.part.slots 23 = .armed x kind e →
      let checked (h : AngleUnit) : Prop := ∃ v : Vector MatchSlot 24, (∀ k, k ≠ 23 → vget v k = vget s.part.slots k) ∧
        exec (.matchExpiry 23) s = .next { s with part := { s.part with clock := e, slots := v, angle := h } }
      (g.locked = true → g.markSeen = true → checked { g with markSeen := false }) ∧
      (g.sync = .crankLocked → g.markSeen = false → g.missCount < 7 → checked { g with missCount := g.missCount + 1 }) ∧
      (g.sync = .crankLocked → g.markSeen = false → g.missCount = 7 → g.noMarkRaised = false →
        ∃ p, exec (.matchExpiry 23) s = .next { s with part := p } ∧ s.part.Still p ∧
          p.angle = { g with missCount := 8, noMarkRaised := true } ∧ p.isLatched .camMark 12 = true ∧
          p.isPresent .camMark 12 = true ∧ p.xu.attn.getLsbD 1 = true) ∧
      (g.sync = .cycleLocked → g.markSeen = false → g.anomalyCount = 0 → checked { g with anomalyCount := 1 }) ∧
      (g.sync = .cycleLocked → g.markSeen = false → g.anomalyCount = 1 →
        ∃ p, exec (.matchExpiry 23) s = .next { s with part := p } ∧ s.part.Still p ∧
          p.angle = { g with
            sync := .crankLocked, rev := .unknown, a0 := g.a0 % 3600, markSeen := false, missCount := 0,
            noMarkRaised := false, markedA := false, markInRev := false, anomalyCount := 2 } ∧
          p.isLatched .camMark 12 = true ∧ p.isPresent .camMark 12 = true ∧ p.standby = true))

/-- An armed match expires at the first tick at which the interpolated angle of R15 shows its angle (R17, R18): one
that R17 arms at its request, and one that R18 arms at a tooth, up to the tooth's own angle. -/
def Obligations.AMatchExpiresWhenTheClockShowsItsAngle : Prop :=
  ∀ (p : Part) (now : Tick) (x : Nat) (kind : MatchKind) (e : Tick), 0 < p.angle.pp →
    p.angle.place now x kind = .armed x kind e ∨ p.armedAtTooth (.waiting x kind) = .armed x kind e →
    let ahead := (kind.circle + x - p.angle.a0 % kind.circle) % kind.circle
    ahead * p.angle.pp ≤ 150 * (2 ^ 24 - 1) →
    ∀ n : Nat, n < 2 ^ 24 →
      (ahead ≤ min (n * 150 / p.angle.pp) (p.angle.span - 1) ↔ (e - p.angle.t0).toNat ≤ n)

/-- A tooth in CYCLE_LOCKED other than tooth 0 has these effects on the match table after its own (R8, R21). With no
slot ARMED and none WAITING for the tooth's own angle, each WAITING slot that holds a cycle match within the span ahead
becomes ARMED for the tick at which the angle clock shows its angle, and every other slot stays (R18). A slot ARMED
before the tooth fires late (R19), and one WAITING for the tooth's own angle fires on time (R18); here each is the one
slot in use. The order among several is the model's (log 8). -/
def Obligations.AToothArmsAndFiresItsMatches : Prop :=
  ∀ (s : State) (t l : Tick) (ip : Nat), s.part.awake = true → s.part.power.state = .run →
    s.part.angle.sync = .cycleLocked → s.part.angle.last = some l → s.part.angle.prev = some ip →
    s.part.angle.tooth < 21 → s.mem.read 0x00C ≠ 1 → (∀ o, s.part.xu.offer = some o → o.prompt = false) →
    let i := (t - l).toNat
    ip ≤ 4 * i → i < 2 * ip →
    let b := { s.part with clock := t }.recordEdge t
    let q := { b with angle := (b.angle.toTooth t i).toSpeed }.writeAngle
    let ahead (x : Nat) : Nat := forward q.angle.a0 x
    let expiry (x : Nat) : Tick := t + BitVec.ofNat 24 ((ahead x * q.angle.pp + 149) / 150)
    ((∀ k x kind e, vget s.part.slots k ≠ .armed x kind e) →
      (∀ k x, vget s.part.slots k = .waiting x .cycle → ahead x ≠ 0) →
      ∃ v : Vector MatchSlot 24, exec (.crankEdge t) s = .next { s with part := { q with slots := v } } ∧
        (∀ k x, vget s.part.slots k = .waiting x .cycle → ahead x < q.angle.span →
          vget v k = .armed x .cycle (expiry x)) ∧
        (∀ k, (∀ x, vget s.part.slots k = .waiting x .cycle → q.angle.span ≤ ahead x) →
          vget v k = vget s.part.slots k)) ∧
    (∀ k : Fin 24, (∀ m, m ≠ k → vget s.part.slots m = .idle) →
      (∀ x kind e, vget s.part.slots k = .armed x kind e →
        exec (.crankEdge t) s = .next { s with part := q.fire k true }) ∧
      (∀ x, vget s.part.slots k = .waiting x .cycle → ahead x = 0 →
        exec (.crankEdge t) s = .next { s with part := q.fire k false }))

/-! ## Cam edges (R25 to R36) -/

/-- The phase of an edge is its angle less the pass's reference, wrapped into −3600 to 3599, with its sign turned for
an ADVANCING phaser; inside the capture window it lies in −50 to S + 50 (R32). -/
def Obligations.PhaseIsTheWrappedDifference : Prop :=
  ∀ (g : PhaserCfg) (ref angle : Nat), ref < 7200 → angle < 7200 →
    ∃ d : Int, -3600 ≤ d ∧ d ≤ 3599 ∧
      (d = (angle : Int) - ref ∨ d = (angle : Int) - ref + 7200 ∨ d = (angle : Int) - ref - 7200) ∧
      (g.direction = .advancing → g.phaseOf ref angle = -d) ∧ (g.direction = .retarding → g.phaseOf ref angle = d) ∧
      (g.captures ref angle = true → -50 ≤ g.phaseOf ref angle ∧ g.phaseOf ref angle ≤ (g.stroke : Int) + 50) ∧
      (g.stroke ≤ 600 →
        let opn := match g.direction with
          | .advancing => (ref + 7200 - g.stroke - 50) % 7200
          | .retarding => (ref + 7200 - 50) % 7200
        let cls := match g.direction with
          | .advancing => (ref + 50) % 7200
          | .retarding => (ref + g.stroke + 50) % 7200
        g.captures ref angle = inWindow 7200 opn cls angle ∧ forward opn cls = g.stroke + 100)

/-- A stray adds one to the anomaly count and to the run stray count of its phaser, delivers no measurement and changes
no pass (R36); at a count of 4 PHASE_IMPLAUSIBLE is latched and present and the counts stay (R37). -/
def Obligations.AStrayCountsAsAnAnomaly : Prop :=
  ∀ (s : State) (i : Fin 4) (t : Tick), s.part.awake = true → s.part.angle.sync = .cycleLocked →
    s.part.config ≠ none →
    let g := s.part.angle
    let a := (g.a0 + min (roundHalfUp ((t - g.t0).toNat * 150) g.pp) (g.span - 1)) % 7200
    let c := vget s.part.cams i
    (∀ k, (vget s.part.passes (windowIndex i k)).live = true → (vget s.part.passes (windowIndex i k)).seen = false →
      (s.part.phaserCfg i).captures (vget s.part.passes (windowIndex i k)).ref a = false) →
    (i = 0 → s.part.angle.inMark (a % 3600) = false) →
    ∃ p, exec (.camEdge i t) s = .next { s with part := p } ∧ { s.part with clock := t }.Outward p ∧
      p.passes = s.part.passes ∧
      (c.anomaly < 4 → (vget p.cams i).anomaly = c.anomaly + 1 ∧ (vget p.cams i).strays = c.strays + 1 ∧
        (vget p.cams i).misses = c.misses ∧
        (c.anomaly = 3 → p.isLatched .phaseImplausible (phaserUnit i) = true ∧
          p.isPresent .phaseImplausible (phaserUnit i) = true)) ∧
      (4 ≤ c.anomaly → p = { s.part with clock := t })

/-- A measuring edge fills its pass. One later than the span allows is STRETCHED: it sets the context's flag, hands the
record over and changes nothing else, with no update (R34). A valid one is the phaser's update with the phase against
the pass's reference: the anomaly and run counts become 0 with PHASE_IMPLAUSIBLE no longer present, the update takes
the stored demand and the cycle number, and OIL_LOW is no longer present when the pressure reaches hold_pressure (R27,
R31, R33, R37, R48, R54). Unless the edge raises REFERENCE_DRIFT, the update finds every phaser, demand and condition
as the edge found them. The second valid edge in a row within 50 dd, of a phaser PARKED and not confirmed, confirms it;
one further off starts the run again (R39). -/
def Obligations.AMeasuringEdgeUpdatesItsPhaser : Prop :=
  ∀ (s : State) (i k : Fin 4) (t : Tick), s.part.awake = true → s.part.angle.sync = .cycleLocked →
    s.part.config ≠ none →
    let g := s.part.angle
    let q := roundHalfUp ((t - g.t0).toNat * 150) g.pp
    let angle := (g.a0 + min q (g.span - 1)) % 7200
    let n := windowIndex i k
    let c := vget s.part.cams i
    let seen := vset s.part.passes n { vget s.part.passes n with seen := true }
    s.part.capturing i angle = some k → (i = 0 → s.part.angle.inMark (angle % 3600) = false) →
    (g.span ≤ q → 0 < g.span →
      let ctx := { vget s.part.phasers i with stretched := true }
      let r : Record := { kind := .phaser i, done := 0, words := ctx.words, released := false }
      exec (.camEdge i t) s = .next { s with part := { s.part with
        clock := t, passes := seen, phasers := vset s.part.phasers i ctx, xu.records := s.part.xu.records ++ [r] } }) ∧
    (q ≤ g.span - 1 →
      let phase := (s.part.phaserCfg i).phaseOf (vget s.part.passes n).ref angle
      let within := decide (c.state = .parked ∧ c.confirmed = false ∧ phase.natAbs ≤ 50)
      ∃ p, exec (.camEdge i t) s = .next { s with part := p } ∧
        (vget p.phasers i).phase = phase ∧ (vget p.phasers i).stretched = false ∧
        (vget p.phasers i).lastUpdate = s.part.xu.cycle ∧
        (vget p.phasers i).enabled = (vget s.part.demand i).enable ∧
        (vget p.phasers i).ta = (vget s.part.demand i).target ∧
        (vget p.phasers i).freeze = (vget s.part.demand i).freeze ∧
        vget p.passes n = { vget s.part.passes n with seen := true } ∧ (vget p.cams i).anomaly = 0 ∧
        (vget p.cams i).misses = 0 ∧ (vget p.cams i).strays = 0 ∧
        p.isPresent .phaseImplausible (phaserUnit i) = false ∧
        (s.part.cfg.holdPressure ≤ s.part.xu.oilPressure → p.isPresent .oilLow (phaserUnit i) = false) ∧
        (∀ j, j ≠ i → (vget p.phasers j).figures = (vget s.part.phasers j).figures) ∧
        (s.part.learns i = false ∨ c.drift ≠ 7 → ∃ r : Part,
          p = r.phaserUpdate s.mem i phase (within && decide (c.confirm = 1)) ∧ r.phasers = s.part.phasers ∧
          r.demand = s.part.demand ∧ r.config = s.part.config ∧ r.angle = g ∧ r.selectors = s.part.selectors ∧
          r.latched = s.part.latched ∧ r.holdTable = s.part.holdTable ∧ r.stage = s.part.stage ∧
          r.channels = s.part.channels ∧ r.xu.oilPressure = s.part.xu.oilPressure ∧ r.xu.oilTemp = s.part.xu.oilTemp ∧
          r.xu.cycle = s.part.xu.cycle ∧
          (∀ kind u, kind ≠ .phaseImplausible → kind ≠ .referenceDrift →
            r.isPresent kind u = s.part.isPresent kind u)) ∧
        (c.state = .parked → c.confirmed = false → (vget s.part.phasers i).state = .parked →
          (vget s.part.phasers i).confirmed = false →
          (within = true → c.confirm = 0 → (vget p.cams i).confirm = 1 ∧ (vget p.phasers i).confirmed = false) ∧
          (within = true → c.confirm = 1 → (vget p.cams i).confirm = 0 ∧ (vget p.phasers i).confirmed = true ∧
            (vget p.cams i).confirmed = true) ∧
          (within = false → (vget p.cams i).confirm = 0 ∧ (vget p.phasers i).confirmed = false)))

/-! ## A phaser's update (R46 to R64, R86) -/

/-- An update that finds no OIL_LOW to end, by the state it finds, after the measurement and the demand are taken.
PARKED: UNLOCKING at the unlock duty when every start condition holds, else nothing (R50, R51). UNLOCKING, TRACKING and
HOLDING with a stop condition: RETURNING at the park duty, with OIL_LOW when the pressure is one of them (R53, R54).
UNLOCKING: the edges count, and at unlock_edges without a release LOCK_STUCK puts the phaser in FAULTED (R52); the
second edge in a row at 20 dd or more releases it into TRACKING, Tr starting at the phase and ramping once, or into
HOLDING when frozen (R52, R55). TRACKING with freeze: HOLDING with a computation; HOLDING stays so while freeze or the
selector's hold lasts (R55, R58). RETURNING: two edges in a row at 5 dd or less park it, confirmed, and at return_edges
RETURN_STUCK puts it in FAULTED (R61). FAULTED: nothing (R64). A changed duty is the output's new request (R46). -/
def Obligations.AnUpdateFollowsThePhasersState : Prop :=
  ∀ (p : Part) (m : Mem) (i : Fin 4) (phase : Int) (confirm : Bool),
    p.isPresent .oilLow (phaserUnit i) = false ∨ p.xu.oilPressure < p.cfg.holdPressure →
    let q := p.phaserUpdate m i phase confirm
    let g := p.phaserCfg i
    let old := vget p.phasers i
    let d := vget p.demand i
    let c := { old with
      phase := phase, stretched := false, lastUpdate := p.xu.cycle, enabled := d.enable, ta := d.target,
      freeze := d.freeze, confirmed := old.confirmed || (confirm && decide (old.state = .parked)) }
    let becomes (c' : PhaserCtx) : Prop := vget q.phasers i = c'
    let stops := d.enable = false ∨ p.angle.speed + p.cfg.enableHyst < p.cfg.enableSpeed ∨
      p.xu.oilPressure < p.cfg.holdPressure
    let starts := p.angle.sync = .cycleLocked ∧ p.config ≠ none ∧ d.enable = true ∧ 0 < d.target ∧
      p.cfg.enableSpeed ≤ p.angle.speed ∧ p.isPresent .conditionsStale 14 = false ∧ p.cfg.enableTemp ≤ p.xu.oilTemp ∧
      p.cfg.unlockPressure ≤ p.xu.oilPressure ∧ c.confirmed = true ∧
      ((vget p.selectors (headOf i)).state = .low ∨ (vget p.selectors (headOf i)).state = .high ∨
        (vget p.selectors (headOf i)).state = .faulted) ∧
      (∀ kind, p.isLatched kind (phaserUnit i) = true ∨ p.isLatched kind (outputUnit (phaserOutput i)) = true →
        p.cfg.reaction kind = some .proceed ∨ p.cfg.reaction kind = none) ∧ p.stage.shutdown = false
    let run (near : Bool) : Nat := if near then c.run + 1 else 0
    (q.xu.cycle = p.xu.cycle ∧ q.demand = p.demand ∧ q.config = p.config ∧ q.angle = p.angle ∧ q.passes = p.passes) ∧
    ((vget q.phasers i).duty ≠ old.duty →
      (vget q.channels (phaserOutput i)).request = .duty (vget q.phasers i).duty) ∧
    (old.state = .parked →
      (starts → becomes { c with state := .unlocking, duty := g.unlockDuty, settle := 0, edges := 0, run := 0 }) ∧
      (¬starts → becomes c)) ∧
    (old.state = .unlocking ∨ old.state = .tracking ∨ old.state = .holding → stops →
      becomes { c with state := .returning, duty := g.parkDuty, settle := 0, edges := 0, run := 0, track := 0,
                       recov := 0, held := false } ∧
      (p.xu.oilPressure < p.cfg.holdPressure → q.isLatched .oilLow (phaserUnit i) = true ∧
        q.isPresent .oilLow (phaserUnit i) = true ∧ q.xu.attn.getLsbD 1 = true)) ∧
    (old.state = .unlocking → ¬stops →
      (run (decide (20 ≤ phase)) < 2 → c.edges + 1 < g.unlockEdges →
        becomes { c with edges := c.edges + 1, run := run (decide (20 ≤ phase)) }) ∧
      (run (decide (20 ≤ phase)) < 2 → g.unlockEdges ≤ c.edges + 1 →
        becomes { c with state := .faulted, confirmed := false, duty := 0, integ := 0, settle := 0, edges := 0,
                         run := 0, track := 0, recov := 0, held := false } ∧
        q.isLatched .lockStuck (phaserUnit i) = true ∧ q.xu.attn.getLsbD 1 = true) ∧
      (2 ≤ run (decide (20 ≤ phase)) →
        let tr : Nat := (max 0 (min (g.stroke : Int) phase)).toNat
        let released := { c with state := .tracking, integ := 0, settle := 0, edges := 0, run := 0, track := 0,
                                 recov := 0, tr := tr }
        (d.freeze = true → becomes { p.compute i { released with state := .holding } with settle := 0 }) ∧
        (d.freeze = false → 1 < g.trackCount →
          (vget q.phasers i).state = .tracking ∧ (vget q.phasers i).edges = 0 ∧ (vget q.phasers i).run = 0 ∧
          (vget q.phasers i).tr = if g.slew = 0 then d.target else
            ((tr : Int) + max (-(g.slew : Int)) (min (g.slew : Int) ((d.target : Int) - tr))).toNat))) ∧
    (old.state = .tracking → ¬stops → d.freeze = true →
      becomes { p.compute i { c with state := .holding } with settle := 0 }) ∧
    (old.state = .holding → ¬stops → d.freeze = true ∨ c.held = true → becomes { p.compute i c with settle := 0 }) ∧
    (old.state = .returning →
      (2 ≤ run (decide (phase ≤ 5)) →
        becomes { c with state := .parked, confirmed := true, duty := 0, integ := 0, settle := 0, edges := 0, run := 0,
                         track := 0, recov := 0, held := false }) ∧
      (run (decide (phase ≤ 5)) < 2 → c.edges + 1 < g.returnEdges →
        becomes { c with edges := c.edges + 1, run := run (decide (phase ≤ 5)) }) ∧
      (run (decide (phase ≤ 5)) < 2 → g.returnEdges ≤ c.edges + 1 →
        becomes { c with state := .faulted, confirmed := false, duty := 0, integ := 0, settle := 0, edges := 0,
                         run := 0, track := 0, recov := 0, held := false } ∧
        q.isLatched .returnStuck (phaserUnit i) = true ∧ q.xu.attn.getLsbD 1 = true)) ∧
    (old.state = .faulted → becomes c)

/-- An update under control that finds no stop condition, no freeze and no hold, of a TRACKING phaser or of a HOLDING
one that returns to TRACKING, takes the ramp step, the computation and the learning, stores the learned entry and hands
the extremes record over with e and D of the computation (R55, R58, R78, R86); the words it compares against are those
that stand once the records that wait are written (DEDUCED, log 6). Then the error is judged. While TRACKING_ERROR is
not present: track_count updates in a row with Tr = Ta and |e| above track_limit raise it with its reaction, proceed,
PARK or FORCE (R56, R63, R62), and entry into FAULTED ends it again (R57). While it is present: four updates in a row
with |e| within the limit end it, and a self-clearing one leaves the latched set (R57, R123). -/
def Obligations.ATrackingUpdateJudgesTheError : Prop :=
  ∀ (p : Part) (m : Mem) (i : Fin 4) (phase : Int) (confirm : Bool),
    p.cfg.holdPressure ≤ p.xu.oilPressure → p.isPresent .oilLow (phaserUnit i) = false →
    let q := p.phaserUpdate m i phase confirm
    let u := phaserUnit i
    let g := p.phaserCfg i
    let old := vget p.phasers i
    let d := vget p.demand i
    let ramped : Nat := if g.slew = 0 then d.target else
      ((old.tr : Int) + max (-(g.slew : Int)) (min (g.slew : Int) ((d.target : Int) - old.tr))).toNat
    let c := { old with
      phase := phase, stretched := false, lastUpdate := p.xu.cycle, enabled := d.enable, ta := d.target,
      freeze := d.freeze, state := .tracking, settle := if old.state = .holding then 0 else old.settle, tr := ramped }
    let o := p.learn i old.band (p.compute i c)
    let wide := g.trackLimit < o.ctx.err.natAbs
    let becomes (c' : PhaserCtx) : Prop := vget q.phasers i = c'
    let raised := q.isLatched .trackingError u = true ∧ q.xu.attn.getLsbD 1 = true
    d.enable = true → p.cfg.enableSpeed ≤ p.angle.speed + p.cfg.enableHyst → d.freeze = false →
    old.state = .tracking ∨ (old.state = .holding ∧ old.held = false) →
    (q.holdTable = match o.entry with
      | some e => vset p.holdTable (holdIndex i o.ctx.band) e
      | none => p.holdTable) ∧
    (∃ r ∈ q.xu.records, r.kind = .extremes i ∧ r.done = 0 ∧ r.words =
      let w (n : Nat) : Word := p.seen m (0x040 + 8 * i.val + n)
      let worse := decide ((o.ctx.err.natAbs : Int) > max (w 0).toInt (-(w 1).toInt))
      [wordOfInt (max (w 0).toInt o.ctx.err), wordOfInt (min (w 1).toInt o.ctx.err),
       wordOfNat (max (w 2).toNat o.ctx.duty), wordOfNat (min (w 3).toNat o.ctx.duty),
       if worse then wordOfNat p.xu.cycle else w 4, if worse then highWord p.xu.cycle else w 5, 0, 0]) ∧
    (p.isPresent .trackingError u = false →
      (¬(wide ∧ ramped = d.target) → becomes { o.ctx with track := 0 } ∧
        q.isPresent .trackingError u = false) ∧
      (wide → ramped = d.target → old.track + 1 < g.trackCount →
        becomes { o.ctx with track := old.track + 1 } ∧ q.isPresent .trackingError u = false) ∧
      (wide → ramped = d.target → g.trackCount ≤ old.track + 1 →
        let judged := { o.ctx with track := g.trackCount }
        (p.cfg.onTracking = .proceed → becomes judged ∧ raised ∧ q.isPresent .trackingError u = true) ∧
        (p.cfg.onTracking = .park → becomes { judged with
            state := .returning, duty := g.parkDuty, settle := 0, edges := 0, run := 0, track := 0, recov := 0,
            held := false } ∧ raised ∧ q.isPresent .trackingError u = true) ∧
        (p.cfg.onTracking = .force → p.cfg.selfClearing = false → becomes { judged with
            state := .faulted, confirmed := false, duty := 0, integ := 0, settle := 0, edges := 0, run := 0,
            track := 0, recov := 0, held := false } ∧ raised ∧ q.isPresent .trackingError u = false) ∧
        (p.cfg.onTracking = .force → p.cfg.selfClearing = true →
          ((vget q.phasers i).state = .faulted ∨ (vget q.phasers i).state = .parked) ∧
          (vget q.phasers i).duty = 0 ∧ q.isLatched .trackingError u = false ∧
          q.isPresent .trackingError u = false))) ∧
    (p.isPresent .trackingError u = true →
      (wide → becomes { o.ctx with recov := 0 } ∧ q.isPresent .trackingError u = true) ∧
      (¬wide → old.recov < 3 → becomes { o.ctx with recov := old.recov + 1 } ∧
        q.isPresent .trackingError u = true) ∧
      (¬wide → old.recov = 3 → becomes { o.ctx with recov := 0, track := 0 } ∧
        q.isPresent .trackingError u = false ∧
        (p.cfg.selfClearing = true → q.isLatched .trackingError u = false) ∧
        (p.cfg.selfClearing = false → q.latched = p.latched)))

/-! ## Window checks, the control computation and learning (R29, R30, R35, R40 to R43, R70 to R80) -/

/-- The window check of a pass that was seen, or was partial, counts nothing; one neither seen nor partial is a miss
and ends a confirmation run (R30, R35, R39). At an anomaly count of 4 a miss raises nothing more and the counts stay
(R37). In every case the rest count of a phaser last reported PARKED rises to at most 5 and that of another stays; when
the miss raises PHASE_IMPLAUSIBLE and its reaction moves the phaser, the count stands at 0, as the report of that
change sets it (R35, R38). In every case a new pass of the window is set up from its nominal angle and learned offset,
and in CYCLE_LOCKED its check match is asked for again: 91 dd past the nominal angle of an ADVANCING phaser, the stroke
and 91 dd past that of a RETARDING one (R29, R30). -/
def Obligations.AWindowCheckClosesItsPass : Prop :=
  ∀ (s : State) (i k : Fin 4) (x : Nat) (kind : MatchKind) (e : Tick), s.part.awake = true →
    vget s.part.slots (windowSlot i k) = .armed x kind e →
    let g := s.part.phaserCfg i
    let n := windowIndex i k
    let c := vget s.part.cams i
    let missed := (vget s.part.passes n).seen = false ∧ (vget s.part.passes n).inside = false
    let check := match g.direction with
      | .advancing => (vget g.nominal k + 91) % 7200
      | .retarding => (vget g.nominal k + g.stroke + 91) % 7200
    ∃ p, exec (.matchExpiry (windowSlot i k)) s = .next { s with part := p } ∧ s.part.Still p ∧
      vget p.passes n =
        { ref := angleAdd (vget g.nominal k) (vget s.part.refTable n).offset, seen := false,
          inside := false, live := true } ∧
      (∀ m, m ≠ n → vget p.passes m = vget s.part.passes m) ∧ (∀ j, j ≠ i → (vget p.cams j).anomaly =
        (vget s.part.cams j).anomaly) ∧
      vget p.slots (windowSlot i k) =
        (if s.part.angle.sync = .cycleLocked then s.part.angle.place e check .cycle else .idle) ∧
      (¬missed → vget p.cams i = { c with rest := if c.state = .parked then min (c.rest + 1) 5 else c.rest }) ∧
      (missed → c.anomaly ≠ 3 ∨ vget p.phasers i = vget s.part.phasers i →
        (vget p.cams i).rest = if c.state = .parked then min (c.rest + 1) 5 else c.rest) ∧
      (missed → c.anomaly = 3 → vget p.phasers i ≠ vget s.part.phasers i → (vget p.cams i).rest = 0) ∧
      (missed → c.anomaly < 4 → (vget p.cams i).anomaly = c.anomaly + 1 ∧ (vget p.cams i).misses = c.misses + 1 ∧
        (vget p.cams i).strays = c.strays ∧ (vget p.cams i).confirm = 0) ∧
      (missed → c.anomaly = 3 → p.isLatched .phaseImplausible (phaserUnit i) = true ∧
        p.isPresent .phaseImplausible (phaserUnit i) = true) ∧
      (missed → 4 ≤ c.anomaly → vget p.cams i = { c with
          confirm := 0, rest := if c.state = .parked then min (c.rest + 1) 5 else c.rest } ∧
        p.latched = s.part.latched ∧ p.present = s.part.present ∧ p.phasers = s.part.phasers ∧
        p.xu.notes = s.part.xu.notes)

/-- The pressure factor: 64 while CONDITIONS_STALE is present, else 128 at a pressure of 0, else 64 × Pnom / Poil
rounded half up within 32 to 128, from the pressure the stop conditions judge, at every computation anew (R72). -/
def Obligations.ThePressureFactorFollowsTheOil : Prop :=
  ∀ (p : Part) (i : Fin 4) (c : PhaserCtx),
    let f := (p.compute i c).factor
    let poil := p.xu.oilPressure
    (p.isPresent .conditionsStale 14 = true → f = 64) ∧
    (p.isPresent .conditionsStale 14 = false → poil = 0 → f = 128) ∧
    (p.isPresent .conditionsStale 14 = false → 0 < poil →
      ∃ q : Nat, 2 * 64 * (p.phaserCfg i).pnom < (2 * q + 1) * poil ∧ (2 * q - 1) * poil ≤ 2 * 64 * (p.phaserCfg i).pnom ∧
        f = min 128 (max 32 q)) ∧
    (p.oilStop = true ↔ poil < p.cfg.holdPressure) ∧
    (∀ f₀, (p.compute i { c with factor := f₀ }).factor = f)

/-- Stages 1 to 9: the error within ±600, the correction and the scaled correction rounded half away, the duty within
Dmin to Dmax, and the integrator held back exactly while the duty would pass a limit in the error's direction (R70,
R71, R73 to R76). Each rounding is stated by its nearest integer, a tie going away from 0. -/
def Obligations.TheControlComputationFollowsItsStages : Prop :=
  ∀ (p : Part) (i : Fin 4) (c : PhaserCtx),
    let g := p.phaserCfg i
    let r := p.compute i c
    let nearest (n : Int) (d : Nat) (x : Int) : Prop :=
      (0 ≤ n → 2 * n - d < 2 * d * x ∧ 2 * d * x ≤ 2 * n + d) ∧ (n < 0 → 2 * n - d ≤ 2 * d * x ∧ 2 * d * x < 2 * n + d)
    ∃ e cand corr scaled raw : Int, e = max (-600) (min 600 ((c.tr : Int) - c.phase)) ∧ cand = c.integ + g.ki * e ∧
      nearest (g.kp * e + cand) 256 corr ∧ nearest (corr * r.factor) 64 scaled ∧ raw = (r.hold : Int) + scaled ∧
      r.err = e ∧ r.hold = (vget p.holdTable (holdIndex i r.band)).value ∧
      (g.dmin ≤ g.dmax → (r.duty : Int) = max (g.dmin : Int) (min (g.dmax : Int) raw) ∧ g.dmin ≤ r.duty ∧
        r.duty ≤ g.dmax) ∧
      ((raw > g.dmax ∧ e > 0) ∨ (raw < g.dmin ∧ e < 0) → r.integ = c.integ) ∧
      (¬((raw > g.dmax ∧ e > 0) ∨ (raw < g.dmin ∧ e < 0)) →
        r.integ = max (-((g.ilim : Int) * 256)) (min ((g.ilim : Int) * 256) cand)) ∧
      (c.integ.natAbs ≤ g.ilim * 256 → r.integ.natAbs ≤ g.ilim * 256) ∧
      (p.isPresent .conditionsStale 14 = true → r.band = c.band) ∧
      (p.isPresent .conditionsStale 14 = false → r.band ≤ 7 ∧ (p.xu.oilTemp < 0 ↔ r.band = 0) ∧
        (0 < r.band → (20 : Int) * r.band - 20 ≤ p.xu.oilTemp) ∧
        (0 < r.band → r.band < 7 → p.xu.oilTemp < (20 : Int) * r.band))

/-- The eighth settled update takes a learning step: the entry becomes H plus an eighth of D − H, within hold_min to
hold_max, its count rises to at most 255, the integrator gives the applied step back, and a clamp that acted is
reported for a LEARN_LIMIT note; an update that does not settle sets the counter to 0 (R77 to R80). -/
def Obligations.TheEighthSettledUpdateLearns : Prop :=
  ∀ (p : Part) (i : Fin 4) (prevBand : Nat) (c : PhaserCtx),
    let g := p.phaserCfg i
    let o := p.learn i prevBand c
    let test := c.state = .tracking ∧ c.tr = c.ta ∧ c.err.natAbs ≤ 3 ∧ p.isPresent .conditionsStale 14 = false ∧
      p.xu.haltLearn = false ∧ c.band = prevBand
    (¬test → o.ctx = { c with settle := 0 } ∧ o.entry = none) ∧
    (test → c.settle < 7 → o.ctx = { c with settle := c.settle + 1 } ∧ o.entry = none) ∧
    (test → 7 ≤ c.settle → g.holdMin ≤ g.holdMax →
      ∃ (v : Nat) (step back : Int), g.holdMin ≤ v ∧ v ≤ g.holdMax ∧
        step = roundHalfAway ((c.duty : Int) - c.hold) 8 ∧
        (v : Int) = max (g.holdMin : Int) (min (g.holdMax : Int) (c.hold + step)) ∧
        back = roundHalfAway (((v : Int) - c.hold) * 256 * 64) c.factor ∧
        o.entry = some { value := v, count := min ((vget p.holdTable (holdIndex i c.band)).count + 1) 255 } ∧
        o.ctx.hold = v ∧ o.ctx.settle = 0 ∧ o.ctx.duty = c.duty ∧
        o.ctx.integ = max (-((g.ilim : Int) * 256)) (min ((g.ilim : Int) * 256) (c.integ - back)) ∧
        (o.limited = true ↔ (v : Int) ≠ c.hold + step))

/-- The learning conditions hold for a phaser last reported PARKED and confirmed, at a rest count of 5, with the speed
in the learn range (1200 to 4000 rpm where the page gives 0 and 0), HALT_LEARN clear and the conditions not stale
(R41). A learning sample within 40 dd of the nominal moves its entry an eighth of the way, within −40 to 40, counts it
to at most 255 and ends REFERENCE_DRIFT; one further off leaves the table and raises REFERENCE_DRIFT at the eighth
(R42, R43). -/
def Obligations.ReferenceLearningMovesOneEighth : Prop :=
  ∀ (p : Part) (i k : Fin 4) (angle : Nat),
    let n := windowIndex i k
    let raw := wrap ((angle : Int) - vget (p.phaserCfg i).nominal k)
    let e := vget p.refTable n
    let q := p.learnReference i k angle
    let c := vget p.cams i
    let default := p.cfg.learnMin = 0 ∧ p.cfg.learnMax = 0
    (p.learns i = true ↔ c.state = .parked ∧ c.confirmed = true ∧ c.rest = 5 ∧
      (if default then 1200 else p.cfg.learnMin) ≤ p.angle.speed ∧
      p.angle.speed ≤ (if default then 4000 else p.cfg.learnMax) ∧ p.xu.haltLearn = false ∧
      p.isPresent .conditionsStale 14 = false) ∧
    (raw.natAbs ≤ 40 → q.isPresent .referenceDrift (phaserUnit i) = false ∧ (vget q.cams i).drift = 0 ∧
      (∀ m, m ≠ n → vget q.refTable m = vget p.refTable m) ∧ (vget q.refTable n).count = min (e.count + 1) 255 ∧
      (vget q.refTable n).offset = max (-40) (min 40 (e.offset + roundHalfAway (raw - e.offset) 8))) ∧
    (40 < raw.natAbs → q.refTable = p.refTable ∧
      ((vget p.cams i).drift < 8 → (vget q.cams i).drift = (vget p.cams i).drift + 1) ∧
      ((vget p.cams i).drift = 7 → q.isLatched .referenceDrift (phaserUnit i) = true ∧
        q.isPresent .referenceDrift (phaserUnit i) = true) ∧
      (8 ≤ (vget p.cams i).drift → q = p))

/-! ## Lobe selectors (R91 to R101) -/

/-- The figures of a plan. A head qualifies when each of its phasers is PARKED, or TRACKING at its Ta with |e| within
settle_tol, or FAULTED for a downward plan (R92). Its configured windows are shifted: by 0 for a PARKED phaser, by −P
for an ADVANCING and by P for a RETARDING phaser that is TRACKING or FAULTED (R93). The effective window is the
intersection of the two: an angle lies in it exactly when it lies in both, there is none exactly when no angle does,
and an empty one has length −1 (R93; its open is a free value, log 13, of which nothing is said here). Lr and Lm are
t_resp and t_move × 8 × 150 / Pp rounded half up (R94), for a Pp that is not 0 (log 12). -/
def Obligations.ThePlanFiguresFollowTheHeadsPhasers : Prop :=
  (∀ io ic eo ec : Nat, io < 7200 → ic < 7200 → eo < 7200 → ec < 7200 → forward io ic < 3600 → forward eo ec < 3600 →
    (∀ wo, meetOpen io ic eo ec = some wo → ∀ x, x < 7200 →
      (inWindow 7200 wo (meetClose ic ec wo) x = true ↔ inWindow 7200 io ic x = true ∧ inWindow 7200 eo ec x = true)) ∧
    (meetOpen io ic eo ec = none → ∀ x, x < 7200 →
      ¬(inWindow 7200 io ic x = true ∧ inWindow 7200 eo ec x = true))) ∧
  (∀ (p : Part) (j : Fin 2) (up : Bool),
    let g := p.selectorCfg j
    let f := p.planFigures j
    let intake : Fin 4 := if j = 0 then 0 else 2
    let exhaust : Fin 4 := if j = 0 then 1 else 3
    let fit (c : PhaserCtx) : Prop := c.state = .parked ∨
      (c.state = .tracking ∧ c.tr = c.ta ∧ c.err.natAbs ≤ g.settleTol) ∨ (c.state = .faulted ∧ up = false)
    let shifts (i : Fin 4) (d : Int) : Prop :=
      ((vget p.phasers i).state = .parked ∧ d = 0) ∨
      (((vget p.phasers i).state = .tracking ∨ (vget p.phasers i).state = .faulted) ∧
        (((p.phaserCfg i).direction = .advancing ∧ d = -(vget p.phasers i).phase) ∨
          ((p.phaserCfg i).direction = .retarding ∧ d = (vget p.phasers i).phase)))
    let rounded (us lead : Nat) : Prop :=
      2 * lead * p.angle.pp ≤ 2 * (us * 8 * 150) + p.angle.pp ∧
      2 * (us * 8 * 150) + p.angle.pp < 2 * (lead + 1) * p.angle.pp
    (p.headQualifies j up = true ↔ fit (vget p.phasers intake) ∧ fit (vget p.phasers exhaust)) ∧
    (∀ si se : Int, shifts intake si → shifts exhaust se →
      let turned (x : Nat) (d : Int) : Nat := (((x : Int) + d) % 7200).toNat
      let io := turned g.iwOpen si
      let ic := turned g.iwClose si
      let eo := turned g.ewOpen se
      let ec := turned g.ewClose se
      (∀ wo, meetOpen io ic eo ec = some wo →
        f.wo = wo ∧ f.wc = meetClose ic ec wo ∧ f.length = ((f.wc + (7200 - f.wo % 7200)) % 7200 : Nat)) ∧
      (meetOpen io ic eo ec = none → f.length = -1)) ∧
    (0 < p.angle.pp → rounded g.tResp f.lr ∧ rounded g.tMove f.lm))

/-- A feasible plan, upward or downward, arms the shift: the figures of R93 and R94 stand in the context, the action
angle is Wo − Lr, the defer count is 0, LOW becomes ARMED_UP and HIGH ARMED_DOWN, and a plan for an owed release clears
release_owed and sets owed_plan. The action match is asked for; an action angle at plan_angle itself is taken as part
of the plan match (R91, R94). -/
def Obligations.AFeasiblePlanArmsTheShift : Prop :=
  ∀ (s : State) (j : Fin 2) (up : Bool) (x : Nat) (kind : MatchKind) (e : Tick), s.part.awake = true →
    vget s.part.slots (planSlot j) = .armed x kind e → s.part.angle.sync = .cycleLocked →
    let c := vget s.part.selectors j
    (up = true ∧ c.state = .low ∧ c.requested = .high) ∨ (up = false ∧ c.state = .high ∧ c.requested = .low) ∨
      (up = false ∧ c.state = .armedDown ∧ c.releaseOwed = true) →
    s.part.angle.speed ≤ (s.part.selectorCfg j).maxSpeed → s.part.headQualifies j up = true →
    s.part.stage.shutdown = false →
    let f := s.part.planFigures j
    let ref := (s.part.selectorCfg j).planAngle
    let action := angleAdd f.wo (-(f.lr : Int))
    let armed := { c with
      state := if up then .armedUp else .armedDown, wo := f.wo, wc := f.wc, lr := f.lr, lm := f.lm, action := action,
      deferCount := 0, releaseOwed := if c.state = .armedDown then false else c.releaseOwed,
      owedPlan := if c.state = .armedDown then true else c.owedPlan }
    (f.lm : Int) + (s.part.selectorCfg j).margin ≤ f.length → f.lr ≤ forward ref f.wo →
    ∃ p, exec (.matchExpiry (planSlot j)) s = .next { s with part := p } ∧ s.part.Still p ∧
      vget p.slots (planSlot j) = s.part.angle.place e ref .cycle ∧
      (∀ l, l ≠ j → vget p.selectors l = vget s.part.selectors l) ∧
      (action ≠ ref → vget p.selectors j = armed ∧ vget p.slots (actionSlot j) = p.angle.place e action .cycle ∧
        p.phasers = s.part.phasers ∧ p.channels = s.part.channels) ∧
      (action = ref → ∃ r : Part, p = r.actionMatch j false ∧ vget r.selectors j = armed ∧
        r.phasers = s.part.phasers ∧ r.channels = s.part.channels ∧ r.angle = s.part.angle ∧ r.clock = e)

/-- A plan that a condition bars leaves the state as it was and counts one deferral with the first failing condition as
its reason: SPEED, PHASERS, SHUTDOWN (R92), WINDOW, LEAD with the figures of the plan in the context (R94); the
reference angle is plan_angle. The count rises to at most defer_limit, and reaching it makes one SWITCH_DEFERRED note
with the reason. The plan match is asked for again and the selector record is handed over; no phaser, no output and no
other selector changes. A plan match that finds no plan needed sets the count to 0, and clears retry in LOW with LOW
requested (R91, R95). -/
def Obligations.ADeferredPlanRecordsItsReason : Prop :=
  ∀ (s : State) (j : Fin 2) (x : Nat) (kind : MatchKind) (e : Tick), s.part.awake = true →
    vget s.part.slots (planSlot j) = .armed x kind e → s.part.angle.sync = .cycleLocked →
    let c := vget s.part.selectors j
    let g := s.part.selectorCfg j
    let f := s.part.planFigures j
    let fits := (f.lm : Int) + g.margin ≤ f.length
    let plans (up : Bool) : Prop := (up = true ∧ c.state = .low ∧ c.requested = .high) ∨
      (up = false ∧ c.state = .high ∧ c.requested = .low) ∨
      (up = false ∧ c.state = .armedDown ∧ c.releaseOwed = true)
    let fast := g.maxSpeed < s.part.angle.speed
    (∀ (up : Bool) (reason : DeferReason), plans up →
      (reason = .speed ∧ fast) ∨ (reason = .phasers ∧ ¬fast ∧ s.part.headQualifies j up = false) ∨
        (¬fast ∧ s.part.headQualifies j up = true ∧
          ((reason = .shutdown ∧ s.part.stage.shutdown = true) ∨
            (s.part.stage.shutdown = false ∧ ((reason = .window ∧ ¬fits) ∨
              (reason = .lead ∧ fits ∧ forward g.planAngle f.wo < f.lr))))) →
      ∃ p, exec (.matchExpiry (planSlot j)) s = .next { s with part := p } ∧ s.part.Still p ∧
        (let figured := decide (reason = .window ∨ reason = .lead)
         vget p.selectors j = { c with
          deferReason := reason, deferCount := min (c.deferCount + 1) g.deferLimit,
          wo := if figured then f.wo else c.wo, wc := if figured then f.wc else c.wc,
          lr := if figured then f.lr else c.lr, lm := if figured then f.lm else c.lm }) ∧
        (c.deferCount + 1 = g.deferLimit →
          p.xu.Noted .switchDeferred (selectorUnit j) { w9 := BitVec.ofNat 16 reason.code, w10 := 0 }) ∧
        (c.deferCount + 1 ≠ g.deferLimit → p.xu.notes = s.part.xu.notes) ∧
        (∃ r ∈ p.xu.records, r.kind = .selector j ∧ r.done = 0 ∧ r.words = (vget p.selectors j).words) ∧
        vget p.slots (planSlot j) = s.part.angle.place e g.planAngle .cycle ∧
        (∀ k, k ≠ planSlot j → vget p.slots k = vget s.part.slots k) ∧ p.phasers = s.part.phasers ∧
        p.channels = s.part.channels ∧ (∀ l, l ≠ j → vget p.selectors l = vget s.part.selectors l)) ∧
    (¬plans true → ¬plans false →
      exec (.matchExpiry (planSlot j)) s = .next { s with part := { s.part with
        clock := e, slots := vset s.part.slots (planSlot j) (s.part.angle.place e g.planAngle .cycle),
        selectors := vset s.part.selectors j { c with
          deferCount := 0, retry := if c.state = .low then false else c.retry } } })

/-- An action match on time whose head still qualifies switches the solenoid: SHIFTING_UP with the energise request, or
SHIFTING_DOWN with the release request; a TRACKING phaser of the head is held and the window-close match asked for
(R59, R88, R96, R97). A head that no longer qualifies, with reason PHASERS, or a match that fires late, with reason
LATE (R19) whether or not the head qualifies (DESIGN CHOICE, log 74), cancels the plan and counts one deferral, with
its note at the limit: ARMED_UP goes to LOW and ARMED_DOWN to HIGH with result CANCELLED, and an owed plan stays
ARMED_DOWN with the release owed again (R95 to R97); the last shift cycle stays (DESIGN CHOICE, log 76). -/
def Obligations.TheActionMatchSwitchesTheSolenoid : Prop :=
  let begins (p : Part) (j : Fin 2) (e : Tick) (q : Part) : Prop :=
    let c := vget p.selectors j
    let g := p.selectorCfg j
    (c.state = .armedUp → vget q.selectors j = { c with
        state := .shiftingUp, dipSeen := false, speedAtEnergise := p.angle.speed } ∧
      (vget q.channels (selectorOutput j)).request =
        .energise g.peakCurrent g.holdCurrent g.dipThreshold (g.tResp + g.tMove)) ∧
    (c.state = .armedDown → vget q.selectors j = { c with state := .shiftingDown, owedPlan := false } ∧
      (vget q.channels (selectorOutput j)).request = .release) ∧
    (∀ i, headOf i = j → (vget p.phasers i).state = .tracking →
      (vget q.phasers i).state = .holding ∧ (vget q.phasers i).held = true) ∧
    vget q.slots (closeSlot j) = q.angle.place e c.wc .cycle
  let cancels (p : Part) (j : Fin 2) (reason : DeferReason) (q : Part) : Prop :=
    let c := vget p.selectors j
    let limit := (p.selectorCfg j).deferLimit
    let counted := { c with deferReason := reason, deferCount := min (c.deferCount + 1) limit }
    (c.state = .armedUp → vget q.selectors j = { counted with state := .low, lastShiftResult := .cancelled } ∧
      (vget q.channels (selectorOutput j)).request = .release) ∧
    (c.state = .armedDown → c.owedPlan = false →
      vget q.selectors j = { counted with state := .high, lastShiftResult := .cancelled }) ∧
    (c.state = .armedDown → c.owedPlan = true →
      vget q.selectors j = { counted with releaseOwed := true, owedPlan := false }) ∧
    (c.deferCount + 1 = limit →
      q.xu.Noted .switchDeferred (selectorUnit j) { w9 := BitVec.ofNat 16 reason.code, w10 := 0 }) ∧
    (c.deferCount + 1 ≠ limit → q.xu.notes = p.xu.notes) ∧ q.phasers = p.phasers
  (∀ (s : State) (j : Fin 2) (up : Bool) (x : Nat) (kind : MatchKind) (e : Tick), s.part.awake = true →
    vget s.part.slots (actionSlot j) = .armed x kind e → s.part.angle.sync = .cycleLocked →
    (vget s.part.selectors j).state = (if up then .armedUp else .armedDown) →
    ∃ p, exec (.matchExpiry (actionSlot j)) s = .next { s with part := p } ∧ s.part.Still p ∧
      (s.part.headQualifies j up = true → begins s.part j e p) ∧
      (s.part.headQualifies j up = false → cancels s.part j .phasers p)) ∧
  (∀ (p : Part) (j : Fin 2), (vget p.selectors j).state = .armedUp ∨ (vget p.selectors j).state = .armedDown →
    cancels p j .late (p.fire (actionSlot j) true) ∧ p.Still (p.fire (actionSlot j) true))

/-- The window close of an upward shift: with the dip seen it is confirmed; the first unconfirmed shift owes a release
and sets retry; the second raises SELECTOR_UNCONFIRMED and sets fault_on_low (R99). That of a downward shift ends
RELEASED in LOW, or in FAULTED when fault_on_low is set, where SELECTOR_UNCONFIRMED is no longer present (R100, R101).
Both release the phasers of the head (R60), and a late match closes the window as one on time does. -/
def Obligations.TheWindowCloseJudgesTheShift : Prop :=
  ∀ (s : State) (j : Fin 2) (x : Nat) (kind : MatchKind) (e : Tick), s.part.awake = true →
    vget s.part.slots (closeSlot j) = .armed x kind e →
    let c := vget s.part.selectors j
    c.state = .shiftingUp ∨ c.state = .shiftingDown →
    ∃ p, exec (.matchExpiry (closeSlot j)) s = .next { s with part := p } ∧ s.part.Still p ∧
      p = { s.part with clock := e }.fire (closeSlot j) true ∧
      (vget p.selectors j).lastShiftCycle = s.part.xu.cycle ∧
      (∀ i, headOf i = j → (vget p.phasers i).held = false ∧
        ((vget s.part.phasers i).state = .holding → (vget s.part.phasers i).freeze = false →
          (vget p.phasers i).state = .tracking)) ∧
      (c.state = .shiftingUp →
        (c.dipSeen = true → vget p.selectors j = { c with
          lastShiftCycle := s.part.xu.cycle, state := .high, retry := false, lastShiftResult := .confirmed }) ∧
        (c.dipSeen = false → c.retry = false → vget p.selectors j = { c with
          lastShiftCycle := s.part.xu.cycle, state := .armedDown, releaseOwed := true, retry := true,
          lastShiftResult := .unconfirmed }) ∧
        (c.dipSeen = false → c.retry = true → vget p.selectors j = { c with
            lastShiftCycle := s.part.xu.cycle, state := .armedDown, releaseOwed := true, faultOnLow := true,
            lastShiftResult := .unconfirmed } ∧
          p.isLatched .selectorUnconfirmed (selectorUnit j) = true ∧
          p.isPresent .selectorUnconfirmed (selectorUnit j) = true ∧ p.xu.attn.getLsbD 1 = true)) ∧
      (c.state = .shiftingDown → (vget p.channels (selectorOutput j)).request = .release ∧
        (c.faultOnLow = false → vget p.selectors j = { c with
          lastShiftCycle := s.part.xu.cycle, state := .low, lastShiftResult := .released }) ∧
        (c.faultOnLow = true → vget p.selectors j = { c with
            lastShiftCycle := s.part.xu.cycle, state := .faulted, faultOnLow := false, retry := false,
            lastShiftResult := .released } ∧
          p.isPresent .selectorUnconfirmed (selectorUnit j) = false))

/-! ## Standby ticks, adoption and the cycle (R83, R137 to R145) -/

/-- A standby tick that finds a changed conditions sequence takes the pair into force, clamped, with the in-force
record written and CONDITIONS_STALE no longer present; one that finds it unchanged adds 10 ms, and raises
CONDITIONS_STALE when the unchanged time has reached stale_time (R143, R144). -/
def Obligations.AStandbyTickJudgesTheConditions : Prop :=
  ∀ (s : State) (t : Tick), s.part.awake = true → s.part.xu.offer = none → s.mem.read 0x00C ≠ 1 →
    ∃ p, exec (.standbyTick t) s = .next { s with part := p } ∧ p.clock = t ∧ p.angle = s.part.angle ∧
      (s.mem.read 0x00A ≠ s.part.xu.seqSeen →
        p.xu.oilTemp = max (-40) (min 200 (s.mem.read 0x008).toInt) ∧
        p.xu.oilPressure = min 1000 (s.mem.read 0x009).toNat ∧ p.xu.seqSeen = s.mem.read 0x00A ∧
        p.xu.unchangedMs = 0 ∧ p.isPresent .conditionsStale 14 = false ∧
        ∃ r ∈ p.xu.records, r.kind = .inForce ∧ r.words =
          [wordOfInt p.xu.oilTemp, wordOfNat p.xu.oilPressure, s.mem.read 0x00A]) ∧
      (s.mem.read 0x00A = s.part.xu.seqSeen →
        p.xu.oilTemp = s.part.xu.oilTemp ∧ p.xu.oilPressure = s.part.xu.oilPressure ∧
        p.xu.unchangedMs = s.part.xu.unchangedMs + 10 ∧
        (s.part.cfg.staleMs ≤ s.part.xu.unchangedMs + 10 → p.isPresent .conditionsStale 14 = true) ∧
        (s.part.xu.unchangedMs + 10 < s.part.cfg.staleMs → p.latched = s.part.latched ∧
          p.present = s.part.present))

/-- An adoption point answers the pending offer. Outside CYCLE_LOCKED it is the standby tick; in CYCLE_LOCKED it is the
tooth event while the offer is prompt (R137), answered after the angle status record is handed over (DESIGN CHOICE, log
65), and the match at the adoption angle, whose answer follows the journal record (RecordsAreWrittenOneWordPerTick).
The answer: the adopted sequence is the offer's, no offer is pending, VERDICT is set and the verdict record handed
over. A kind word that is neither 1 nor 2 gets REFUSED_KIND with the word as detail, a targets page without a
configuration REFUSED_UNCONFIGURED, a configuration page outside STANDBY REFUSED_BUSY, and a page refused so has no
effect at all (R138); REFUSED_INVALID stands with the two kinds of page (ATargetsPageIsStoredWhole,
AConfigurationPageIsAdoptedWhole). -/
def Obligations.AnAdoptionPointAnswersTheOffer : Prop :=
  (∀ (s : State) (t : Tick) (o : Offer), s.part.awake = true → s.part.angle.sync ≠ .cycleLocked →
    s.part.xu.offer = some o → s.mem.read 0x00A = s.part.xu.seqSeen →
    s.part.xu.unchangedMs + 10 < s.part.cfg.staleMs → s.mem.read 0x00C ≠ 1 →
    exec (.standbyTick t) s = .next { s with
      part := ({ s.part with clock := t, xu.unchangedMs := s.part.xu.unchangedMs + 10 }).answerOffer s.mem o }) ∧
  (∀ (s : State) (t l : Tick) (ip : Nat) (o : Offer), s.part.awake = true → s.part.power.state = .run →
    s.part.angle.sync = .cycleLocked → s.part.angle.last = some l → s.part.angle.prev = some ip →
    s.part.angle.tooth < 21 → (∀ k, vget s.part.slots k = .idle) → s.mem.read 0x00C ≠ 1 →
    s.part.xu.offer = some o → o.prompt = true → ip ≤ 4 * (t - l).toNat → (t - l).toNat < 2 * ip →
    let b := { s.part with clock := t }.recordEdge t
    let q := { b with angle := (b.angle.toTooth t (t - l).toNat).toSpeed }.writeAngle
    exec (.crankEdge t) s = .next { s with part := q.answerOffer s.mem o }) ∧
  (∀ (p : Part) (m : Mem) (o : Offer),
    let kind := m.read (pageBase o.page)
    let q := p.answerOffer m o
    let refused (v : Verdict) (detail : Word) : Prop :=
      q = ({ p with xu.verdict := v, xu.verdictDetail := detail, xu.adoptedSeq := o.seq, xu.offer := none,
                    xu.records := q.xu.records, xu.attn := q.xu.attn }) ∧
      q.xu.records.length = p.xu.records.length + 1
    q.xu.adoptedSeq = o.seq ∧ q.xu.offer = none ∧ q.xu.attn.getLsbD 2 = true ∧
    (∃ r ∈ q.xu.records, r.kind = .verdict ∧ r.done = 0 ∧
      r.words = [BitVec.ofNat 16 o.seq.toNat, BitVec.ofNat 16 q.xu.verdict.code, q.xu.verdictDetail,
                 BitVec.ofNat 16 p.xu.lastDropped.toNat]) ∧
    (kind ≠ 1 → kind ≠ 2 → refused .refusedKind kind) ∧
    (kind = 1 → p.standby = false → refused .refusedBusy 0) ∧
    (kind = 2 → p.config = none → refused .refusedUnconfigured 0))

/-- The answer to a targets page, in any sync state. Every phaser's stored demand takes the page's enable, target
clamped to 0 to the stroke, and freeze; the detail counts the clamped targets (R138 to R140, R48). Every selector takes
its lobe: a changed one cancels ARMED_UP for LOW, and ARMED_DOWN with nothing owed for HIGH, with result CANCELLED,
defer count 0, the action match cancelled and the last shift cycle as it was (DESIGN CHOICE, log 76); any other state
stays, save that the mask may release a FAULTED selector to LOW (R90, R104). A probe mask names its outputs in bits 0
to 5. It is judged once the lobes are taken (order: log 52): the first failing condition of R115 makes a PROBE_REFUSED
note and no result changes; else the named results become PENDING and the lowest enters PROBE (level 2: log 39; not one
that is tripped: log 18). The clear-faults mask clears the named kinds that are not present and no other (R131). A word
that must be 0 or 1 and is not refuses the page at the lowest such offset, with nothing taken (R138, R139). -/
def Obligations.ATargetsPageIsStoredWhole : Prop :=
  ∀ (p : Part) (m : Mem) (o : Offer) (c : Configuration), p.config = some c → m.read (pageBase o.page) = 2 →
    let word (x : Nat) : Word := m.read (pageBase o.page + x)
    let clamped (i : Fin 4) : Int := max 0 (min ((vget c.phasers i).stroke : Int) (word (5 + 3 * i.val)).toInt)
    let flags : List Nat := [0x02, 0x04, 0x06, 0x07, 0x09, 0x0A, 0x0C, 0x0D, 0x0F, 0x10, 0x11]
    let lobe (j : Fin 2) : Lobe := if word (0x10 + j.val) = 1 then .high else .low
    let dropsUp (j : Fin 2) : Prop :=
      (vget p.selectors j).state = .armedUp ∧ (vget p.selectors j).requested = .high ∧ lobe j = .low
    let dropsDown (j : Fin 2) : Prop :=
      (vget p.selectors j).state = .armedDown ∧ (vget p.selectors j).releaseOwed = false ∧
      (vget p.selectors j).owedPlan = false ∧ (vget p.selectors j).requested = .low ∧ lobe j = .high
    let named (n : Fin 6) : Prop := (word 3).getLsbD n.val = true
    let q := p.answerOffer m o
    q.config = some c ∧ q.xu.adoptedSeq = o.seq ∧
    ((∀ x ∈ flags, word x = 0 ∨ word x = 1) →
      (∀ i : Fin 4, vget q.demand i = { enable := decide (word (4 + 3 * i.val) = 1), target := (clamped i).toNat,
                                        freeze := decide (word (6 + 3 * i.val) = 1) }) ∧
      (∀ j : Fin 2,
        let s := { vget p.selectors j with requested := lobe j }
        (dropsUp j → vget q.selectors j = { s with state := .low, lastShiftResult := .cancelled, deferCount := 0 } ∧
          vget q.slots (actionSlot j) = .idle ∧ (vget q.channels (selectorOutput j)).request = .release) ∧
        (dropsDown j → vget q.selectors j = { s with state := .high, lastShiftResult := .cancelled, deferCount := 0 } ∧
          vget q.slots (actionSlot j) = .idle) ∧
        (¬dropsUp j → ¬dropsDown j →
          (s.state ≠ .faulted → vget q.selectors j = s) ∧
          (s.state = .faulted → vget q.selectors j = s ∨ vget q.selectors j = { s with state := .low }))) ∧
      (∀ k, (∀ j, dropsUp j ∨ dropsDown j → k ≠ actionSlot j) → vget q.slots k = vget p.slots k) ∧
      ((∀ n, ¬named n) → q.stage = p.stage ∧
        ∀ n, (vget q.channels n).probeResult = (vget p.channels n).probeResult) ∧
      (∀ why : Nat, (∃ n, named n) →
        (q.standby = false ∧ why = 0) ∨ (q.standby = true ∧ p.angle.sync ≠ .stopped ∧ why = 1) ∨
          (q.standby = true ∧ p.angle.sync = .stopped ∧ p.stage.shutdown = true ∧ why = 2) ∨
          (q.standby = true ∧ p.angle.sync = .stopped ∧ p.stage.shutdown = false ∧ p.stage.discharge = true ∧
            why = 3) ∨
          (q.standby = true ∧ p.angle.sync = .stopped ∧ p.stage.shutdown = false ∧ p.stage.discharge = false ∧
            p.stage.probe ≠ none ∧ why = 4) →
        q.xu.Noted .probeRefused 13 { w9 := BitVec.ofNat 16 why, w10 := 0 } ∧ q.stage = p.stage ∧
        ∀ n, (vget q.channels n).probeResult = (vget p.channels n).probeResult) ∧
      (q.standby = true → p.angle.sync = .stopped → p.stage.shutdown = false → p.stage.discharge = false →
        p.stage.probe = none → ∀ n, named n →
        (∀ l, l < n → ¬named l ∧ (vget p.channels l).probeResult ≠ .pending) →
        q.stage = { p.stage with probe := some n } ∧
        ((vget p.channels n).tripped = false → (vget q.channels n).mode = .probe ∧ (vget q.channels n).level = 2) ∧
        (∀ l, named l → (vget q.channels l).probeResult = .pending) ∧
        (∀ l, ¬named l → (vget q.channels l).probeResult = (vget p.channels l).probeResult)) ∧
      ((∀ i : Fin 4, clamped i = (word (5 + 3 * i.val)).toInt) →
        q.xu.verdict = .adopted ∧ q.xu.verdictDetail = 0) ∧
      (∀ n, n = (allPhasers.filter fun i => decide (clamped i ≠ (word (5 + 3 * i.val)).toInt)).length → 0 < n →
        q.xu.verdict = .adoptedClamped ∧ q.xu.verdictDetail = BitVec.ofNat 16 n) ∧
      (∀ (kind : Kind) (u : Unit15),
        ((word 1).getLsbD kind.code = true → p.isPresent kind u = false → q.isLatched kind u = false) ∧
        ((word 1).getLsbD kind.code = false → q.isLatched kind u = p.isLatched kind u) ∧
        (p.isLatched kind u = false → q.isLatched kind u = false))) ∧
    (∀ x ∈ flags, word x ≠ 0 → word x ≠ 1 → (∀ y ∈ flags, y < x → word y = 0 ∨ word y = 1) →
      q = { p with xu.verdict := .refusedInvalid, xu.verdictDetail := BitVec.ofNat 16 x, xu.adoptedSeq := o.seq,
                   xu.offer := none, xu.records := q.xu.records, xu.attn := q.xu.attn } ∧
      q.xu.records.length = p.xu.records.length + 1)

/-- The answer to a configuration page in STANDBY, in any sync state. A page that fails a structural test of R141 on
its clamped values is refused with the lowest offset among the failing tests, and nothing of it is taken (R138; of two
windows that overlap the later is the one with the greater k: DEDUCED, log 31; the sense of a direction that is neither
0 nor 1 is a free value: log 14). Any other page is adopted: the clamped fields replace the active configuration as a
whole; every hold entry that never learned takes the default, and every entry is brought within its new range, counts
kept; stored targets, Ta and Tr are clamped to the new strokes; integrators and the reference run counts are 0; the
reference table and the demand's enables stay. In CYCLE_LOCKED the passes are set up anew from the new nominal angles,
and the check, plan and adoption matches stand at the new angles (R44, R49, R83, R89, R137, R138, R141, R142). -/
def Obligations.AConfigurationPageIsAdoptedWhole : Prop :=
  ∀ (p : Part) (m : Mem) (o : Offer), p.standby = true → m.read (pageBase o.page) = 1 →
    let c := configOf (pageOf m o.page)
    let q := p.answerOffer m o
    let fails := structuralTestFails (pageOf m o.page)
    (∀ x, fails x → (∀ y, fails y → x ≤ y) →
      q = { p with xu.verdict := .refusedInvalid, xu.verdictDetail := BitVec.ofNat 16 x, xu.adoptedSeq := o.seq,
                   xu.offer := none, xu.records := q.xu.records, xu.attn := q.xu.attn } ∧
      q.xu.records.length = p.xu.records.length + 1) ∧
    ((∀ x, ¬fails x) →
      q.config = some c ∧ q.xu.adoptedSeq = o.seq ∧
      (q.xu.verdict = .adopted ∨ q.xu.verdict = .adoptedClamped) ∧ q.refTable = p.refTable ∧
      (∀ (i : Fin 4) (b : Nat), b < 8 → vget q.holdTable (holdIndex i b) =
        { value := clampNat (vget c.phasers i).holdMin (vget c.phasers i).holdMax
            (if (vget p.holdTable (holdIndex i b)).count = 0 then (vget c.phasers i).holdDefault
             else (vget p.holdTable (holdIndex i b)).value),
          count := (vget p.holdTable (holdIndex i b)).count }) ∧
      (∀ i : Fin 4, (vget q.demand i).target = min (vget p.demand i).target (vget c.phasers i).stroke ∧
        (vget q.demand i).enable = (vget p.demand i).enable ∧
        (vget q.phasers i).ta = min (vget p.phasers i).ta (vget c.phasers i).stroke ∧
        (vget q.phasers i).tr = min (vget p.phasers i).tr (vget c.phasers i).stroke ∧
        (vget q.phasers i).integ = 0 ∧ (vget q.cams i).anomaly = 0 ∧ (vget q.cams i).drift = 0) ∧
      (∀ i : Fin 4, (vget c.phasers i).dmin < (vget c.phasers i).dmax ∧ (vget c.phasers i).dmax ≤ 1000 ∧
        (vget c.phasers i).holdMin ≤ (vget c.phasers i).holdMax ∧ (vget c.phasers i).holdMax ≤ 1000 ∧
        100 ≤ (vget c.phasers i).stroke ∧ (vget c.phasers i).stroke ≤ 600 ∧
        100 ≤ (vget c.phasers i).pnom ∧ (vget c.phasers i).pnom ≤ 600) ∧
      (q.angle.sync = .cycleLocked →
        vget q.slots 22 = q.angle.place q.clock c.adoptionAngle .cycle ∧
        (∀ j, vget q.slots (planSlot j) = q.angle.place q.clock (vget c.selectors j).planAngle .cycle) ∧
        (∀ i k : Fin 4, (vget q.passes (windowIndex i k)).live = true ∧
          (vget q.passes (windowIndex i k)).seen = false ∧
          (vget q.passes (windowIndex i k)).ref =
            angleAdd (vget (vget c.phasers i).nominal k) (vget p.refTable (windowIndex i k)).offset ∧
          vget q.slots (windowSlot i k) = q.angle.place q.clock ((vget c.phasers i).checkAngle k) .cycle)))

/-- The adoption-angle match advances the cycle number, which stops at 4,294,967,295, and hands over the journal record
of the cycle just completed for slot N mod 32, with the figures of Table 9-1 as they stand; in CYCLE_LOCKED it is asked
for again (R137, R145). The pending offer is then owed its examination, which follows the record's completion (the
model's own count: log 5). -/
def Obligations.TheAdoptionMatchWritesTheJournal : Prop :=
  ∀ (s : State) (x : Nat) (kind : MatchKind) (e : Tick), s.part.awake = true → vget s.part.slots 22 = .armed x kind e →
    let n := min (s.part.xu.cycle + 1) 4294967295
    let bit (ws : List Word) (word at_ : Nat) : Bool := (ws.getD word 0).getLsbD at_
    ∃ (slot : Fin 32) (ws : List Word) (v : Vector MatchSlot 24),
      slot.val = n % 32 ∧ ws.length = 32 ∧ ws[0]? = some (wordOfNat n) ∧ ws[1]? = some (highWord n) ∧
      ws[2]? = some (wordOfNat s.part.angle.speed) ∧ ws[3]? = some (wordOfNat s.part.angle.sync.code) ∧
      bit ws 4 0 = s.part.xu.firstJournal ∧ bit ws 4 1 = s.part.isPresent .conditionsStale 14 ∧
      ws[5]? = some (wordOfInt s.part.xu.oilTemp) ∧ ws[6]? = some (wordOfNat s.part.xu.oilPressure) ∧
      ws[7]? = some (s.part.xu.adoptedSeq.setWidth 16) ∧
      (∀ i : Fin 4, let c := vget s.part.phasers i
        ws[8 + 4 * i.val]? = some (wordOfNat c.state.code) ∧ ws[9 + 4 * i.val]? = some (wordOfInt c.phase) ∧
        ws[10 + 4 * i.val]? = some (wordOfNat c.tr) ∧ ws[11 + 4 * i.val]? = some (wordOfNat c.duty)) ∧
      (∀ j : Fin 2, ws[24 + j.val]? = some (wordOfNat (vget s.part.selectors j).state.code) ∧
        bit ws 28 (12 + j.val) = s.part.isLatched .selectorUnconfirmed (selectorUnit j)) ∧
      (∀ (i : Fin 4) (k : Fin 6), bit ws (26 + i.val / 2) (8 * (i.val % 2) + k.val) = s.part.isLatched
        (match k with
          | 0 => .phaseImplausible | 1 => .trackingError | 2 => .lockStuck | 3 => .returnStuck
          | 4 => .referenceDrift | 5 => .oilLow) (phaserUnit i)) ∧
      (∀ out : Fin 6, bit ws 28 (2 * out.val) = s.part.isLatched .openLoad (outputUnit out) ∧
        bit ws 28 (2 * out.val + 1) = s.part.isLatched .overCurrent (outputUnit out)) ∧
      (bit ws 29 0 = s.part.isLatched .syncLoss 12 ∧ bit ws 29 1 = s.part.isLatched .camMark 12 ∧
        bit ws 29 2 = s.part.isLatched .driverWarn 13 ∧ bit ws 29 3 = s.part.isLatched .driverShutdown 13 ∧
        bit ws 29 4 = s.part.isLatched .conditionsStale 14) ∧ ws[30]? = some 0 ∧ ws[31]? = some 0 ∧
      (∀ k, k ≠ 22 → vget v k = vget s.part.slots k) ∧
      (s.part.angle.sync = .cycleLocked →
        vget v 22 = s.part.angle.place e s.part.cfg.adoptionAngle .cycle) ∧
      (let r : Record := { kind := .journal slot, done := 0, words := ws, released := false }
       exec (.matchExpiry 22) s = .next { s with part := { s.part with
         clock := e, slots := v, xu.cycle := n, xu.firstJournal := false, xu.examineOwed := s.part.xu.examineOwed + 1,
         xu.records := s.part.xu.records ++ [r] } })

/-! ## Fault clearing (R131, R132) -/

/-- A page's clear-faults mask takes every named kind that is latched and not present out of the latched set; a named
kind that is present stays latched and makes a CLEAR_KEPT note on its unit, whose detail is the last such kind (R131).
A tripped output whose OVER_CURRENT is no longer latched is free again (R114). Every FAULTED phaser and selector that
no latched fault keeps is released, the phaser to PARKED and not confirmed, the selector to LOW with its output's
request released; every other owner keeps its context (R132, R64, R104). The summary is handed over, and no attention
cause is set. -/
def Obligations.TheMaskClearsFaultsAndReleasesTheirOwners : Prop :=
  ∀ (p : Part) (mask : Word),
    let q := p.clearFaults mask
    let named (k : Kind) : Prop := mask.getLsbD k.code = true
    let forces (k : Kind) : Prop := p.cfg.reaction k = some .force
    let keepsPhaser (i : Fin 4) : Prop := ∃ k, forces k ∧
      (q.isLatched k (phaserUnit i) = true ∨ q.isLatched k (outputUnit (phaserOutput i)) = true)
    let keepsSelector (j : Fin 2) : Prop := q.isLatched .selectorUnconfirmed (selectorUnit j) = true ∨
      ∃ k, (forces k ∨ p.cfg.reaction k = some .park) ∧ q.isLatched k (outputUnit (selectorOutput j)) = true
    (∀ k u, q.isLatched k u = true ↔ p.isLatched k u = true ∧ ¬(named k ∧ p.isPresent k u = false)) ∧
    (∀ k u, named k → p.isLatched k u = true → p.isPresent k u = true →
      (∀ l : Kind, k.code < l.code → named l → p.isLatched l u = true → p.isPresent l u = false) →
      q.xu.Noted .clearKept u { w9 := BitVec.ofNat 16 k.code, w10 := 0 }) ∧
    (∀ n, (vget q.channels n).tripped =
      ((vget p.channels n).tripped && q.isLatched .overCurrent (outputUnit n))) ∧
    (∀ i, ((vget p.phasers i).state = .faulted → ¬keepsPhaser i →
        vget q.phasers i = { vget p.phasers i with state := .parked, confirmed := false, settle := 0 }) ∧
      ((vget p.phasers i).state ≠ .faulted ∨ keepsPhaser i → vget q.phasers i = vget p.phasers i)) ∧
    (∀ j, ((vget p.selectors j).state = .faulted → ¬keepsSelector j →
        vget q.selectors j = { vget p.selectors j with state := .low } ∧
        (vget q.channels (selectorOutput j)).request = .release) ∧
      ((vget p.selectors j).state ≠ .faulted ∨ keepsSelector j →
        vget q.selectors j = vget p.selectors j ∧
        (vget q.channels (selectorOutput j)).request = (vget p.channels (selectorOutput j)).request)) ∧
    (∃ r ∈ q.xu.records, r.kind = .summary ∧ r.done = 0 ∧ r.words = q.summaryWords) ∧
    q.xu.attn = p.xu.attn ∧ q.config = p.config ∧ q.demand = p.demand ∧ q.angle = p.angle ∧ q.slots = p.slots

/-! ## Output drivers (R106 to R121, R158) -/

/-- A PWM period starts with the duty in force: its on-time is the period's ticks times the duty, per mille, rounded
half up; a channel in OFF has no periods (R107). At the end of an on-time the mean, clamped to 0 to 3000 mA, is the
measured current; under 800 ticks of on-time nothing is judged; else the threshold is 40 mA (R108). A current check of
a selector output measures in the same way: the first in PEAK judges nothing, the threshold is 200 mA in PEAK and 60 mA
in HOLD (R110). With no open load, a measurement at or above the threshold sets the count to 0 and one below it counts;
the third makes the state ACTIVE and raises OPEN_LOAD with its note, present exactly while the reaction leaves the
channel's state ACTIVE, and the reaction reaches the owner: PARK a phaser under control, PARK and FORCE a selector,
FORCE both (R112, R113, R127). With an open load, a measurement below the threshold sets the good count to 0 and one at
or above it counts; the third ends the condition, which stays latched (R112, R113). -/
def Obligations.ADrivenOutputIsMeasuredAndJudged : Prop :=
  ∀ s : State, s.part.awake = true →
    let clamped (mean : Int) : Nat := (max 0 (min 3000 mean)).toNat
    let became (e : Instr) (n : Fin 6) (c : Channel) : Prop :=
      exec e s = .next { s with part := { s.part with channels := vset s.part.channels n c } }
    let raised (e : Instr) (n : Fin 6) (which : Nat) (c : Channel) : Prop :=
      ∃ p, exec e s = .next { s with part := p } ∧ s.part.Outward p ∧ (vget p.channels n).measured = c.measured ∧
        p.isLatched .openLoad (outputUnit n) = true ∧ p.xu.attn.getLsbD 1 = true ∧
        p.xu.Noted (.fault .openLoad) (outputUnit n) { w9 := BitVec.ofNat 16 which, w10 := BitVec.ofNat 16 c.measured } ∧
        (p.isPresent .openLoad (outputUnit n) = true ↔ (vget p.channels n).openLoad = .active) ∧
        (s.part.cfg.onOpenLoad = .proceed → vget p.channels n = { c with openCount := 3, openLoad := .active } ∧
          p.phasers = s.part.phasers ∧ p.selectors = s.part.selectors) ∧
        (∀ i, n = phaserOutput i →
          (s.part.cfg.onOpenLoad = .force → (vget p.phasers i).state = .faulted) ∧
          (s.part.cfg.onOpenLoad = .park → (vget s.part.phasers i).state = .unlocking ∨
              (vget s.part.phasers i).state = .tracking ∨ (vget s.part.phasers i).state = .holding →
            (vget p.phasers i).state = .returning ∧ (vget p.phasers i).duty = (s.part.phaserCfg i).parkDuty)) ∧
        (∀ j, n = selectorOutput j → s.part.cfg.onOpenLoad ≠ .proceed → (vget p.selectors j).state = .faulted)
    let judged (e : Instr) (n : Fin 6) (threshold which : Nat) (c : Channel) : Prop :=
      (c.openLoad = .none →
        (threshold ≤ c.measured → became e n { c with openCount := 0 }) ∧
        (c.measured < threshold → c.openCount < 2 → became e n { c with openCount := c.openCount + 1 }) ∧
        (c.measured < threshold → 2 ≤ c.openCount → raised e n which c)) ∧
      (c.openLoad ≠ .none →
        (c.measured < threshold → became e n { c with goodCount := 0 }) ∧
        (threshold ≤ c.measured → c.goodCount < 2 → became e n { c with goodCount := c.goodCount + 1 }) ∧
        (threshold ≤ c.measured → 2 ≤ c.goodCount → ∃ p, exec e s = .next { s with part := p } ∧ s.part.Outward p ∧
          vget p.channels n = { c with openLoad := .none, openCount := 0, goodCount := 0 } ∧
          p.isPresent .openLoad (outputUnit n) = false ∧ p.latched = s.part.latched))
    (∀ (out : Fin 4) (mean : Int),
      let n := phaserOutput out
      let c := vget s.part.channels n
      let ended := { c with measured := clamped mean, onActive := false }
      (∀ d, c.mode = .pwm → c.request = .duty d →
        became (.pwmPeriodStart out) n { c with
          level := d, onActive := true,
          onTicks := roundHalfUp (roundHalfUp 8000000 s.part.cfg.pwmFreq * d) 1000 }) ∧
      (c.mode ≠ .pwm → exec (.pwmPeriodStart out) s = .next s) ∧
      (c.mode = .pwm → c.onActive = true → c.onTicks < 800 → became (.onTimeEnd out mean) n ended) ∧
      (c.mode = .pwm → c.onActive = true → 800 ≤ c.onTicks → judged (.onTimeEnd out mean) n 40 0 ended) ∧
      (c.mode ≠ .pwm ∨ c.onActive = false → exec (.onTimeEnd out mean) s = .next s)) ∧
    (∀ (sel : Fin 2) (mean : Int),
      let n := selectorOutput sel
      let c := vget s.part.channels n
      let checked := { c with measured := clamped mean, firstCheck := false }
      (c.mode = .peak → c.firstCheck = true → became (.selectorCurrentCheck sel mean) n checked) ∧
      (c.mode = .peak → c.firstCheck = false → judged (.selectorCurrentCheck sel mean) n 200 1 checked) ∧
      (c.mode = .hold → judged (.selectorCurrentCheck sel mean) n 60 2 checked) ∧
      (c.mode = .off → exec (.selectorCurrentCheck sel mean) s = .next s))

/-- An over-current, above 2,500 mA in a valve's on-time or more than 400 mA above peak_current in PEAK or HOLD, puts
the channel in OFF, sets tripped, latches OVER_CURRENT without its being present, and forces the owner to FAULTED, a
phaser with its duty 0; at or below the limit nothing happens (R114, R124, R127, R62, R104). -/
def Obligations.AnOverCurrentTripsTheOutput : Prop :=
  ∀ (s : State) (out : Fin 6) (current : Nat), s.part.awake = true →
    let c := vget s.part.channels out
    let trips (p : Part) : Prop :=
      exec (.overCurrent out current) s = .next { s with part := p } ∧ s.part.Outward p ∧
      (vget p.channels out).mode = .off ∧ (vget p.channels out).tripped = true ∧
      p.isLatched .overCurrent (outputUnit out) = true ∧ p.xu.attn.getLsbD 1 = true ∧
      (s.part.isPresent .overCurrent (outputUnit out) = false → p.isPresent .overCurrent (outputUnit out) = false)
    (∀ i : Fin 4, out = phaserOutput i → c.mode = .pwm → c.onActive = true →
      (2500 < current → ∃ p, trips p ∧ (vget p.phasers i).state = .faulted ∧
        ((vget s.part.phasers i).state ≠ .faulted → (vget p.phasers i).duty = 0 ∧ (vget p.phasers i).integ = 0 ∧
          (vget p.phasers i).confirmed = false)) ∧
      (current ≤ 2500 → exec (.overCurrent out current) s = .next s)) ∧
    (∀ (j : Fin 2) (peak hold dip duration : Nat), out = selectorOutput j → c.mode = .peak ∨ c.mode = .hold →
      c.request = .energise peak hold dip duration →
      (peak + 400 < current → ∃ p, trips p ∧ (vget p.selectors j).state = .faulted) ∧
      (current ≤ peak + 400 → exec (.overCurrent out current) s = .next s)) ∧
    (c.mode = .off → exec (.overCurrent out current) s = .next s)

/-- A sample in PEAK raises the running maximum; one at or below it less dip_threshold is a dip, reported once per peak
phase, and a selector in SHIFTING_UP takes it; in HOLD and OFF no samples are taken (R98, R111). -/
def Obligations.APeakPhaseReportsOneDipAndEndsInHold : Prop :=
  ∀ (s : State) (sel : Fin 2) (x peak hold dip duration : Nat), s.part.awake = true → x ≤ 3000 →
    let n := selectorOutput sel
    let c := vget s.part.channels n
    let top := max c.runMax x
    (c.mode = .peak → c.request = .energise peak hold dip duration →
      ∃ p, exec (.dipSample sel x) s = .next { s with part := p } ∧ s.part.Outward p ∧
        (x + dip ≤ top ∧ c.dipReported = false →
          vget p.channels n = { c with runMax := top, dipReported := true } ∧
          ((vget s.part.selectors sel).state = .shiftingUp → (vget p.selectors sel).dipSeen = true) ∧
          ((vget s.part.selectors sel).state ≠ .shiftingUp → p.selectors = s.part.selectors)) ∧
        (top < x + dip ∨ c.dipReported = true →
          vget p.channels n = { c with runMax := top } ∧ p.selectors = s.part.selectors)) ∧
    (c.mode ≠ .peak → exec (.dipSample sel x) s = .next s) ∧
    (c.mode = .peak → c.request = .energise peak hold dip duration →
      let q := { s.part with channels := vset s.part.channels n { c with
        mode := .hold, level := hold, openCount := 0, goodCount := 0, firstCheck := false } }
      let r : Record := { kind := .driver, done := 0, words := q.driverWords, released := false }
      exec (.peakTimerExpiry sel) s =
        .next { s with part := { q with xu.records := s.part.xu.records ++ [r] } }) ∧
    (c.mode ≠ .peak → exec (.peakTimerExpiry sel) s = .next s)

/-- The end of an output's probe: OK when the load carried the current, OPEN otherwise with the open load PASSIVE and,
when none was present, OPEN_LOAD latched; the result comes before the channel's return to OFF, and what it does to the
open load comes with it (the latter order is log 41). The next named output enters PROBE at 2 mA, shown as its level
(DEDUCED, log 39; records: log 63), and after the last the probe is IDLE (R113, R116). A running probe is aborted by an
accepted crank edge in STOPPED and by a sample at which the shutdown condition becomes present: every output still
PENDING becomes ABORTED, the others keep their results, the channel in PROBE returns to OFF and the probe is IDLE
(R117; the order of the driver records is log 62; the bits of a status word without a name are 0: DESIGN CHOICE, log
72). -/
def Obligations.AProbeJudgesOrAbortsItsOutputs : Prop :=
  (∀ (s : State) (n : Fin 6) (carried : Bool), s.part.awake = true → s.part.standby = true →
    s.part.stage.probe = some n →
    (vget s.part.channels n).mode = .probe → (vget s.part.channels n).probeResult = .pending →
    s.part.stage.shutdown = false → s.part.stage.discharge = false → (∀ m, (vget s.part.channels m).tripped = false) →
    (∀ m, (vget s.part.channels m).request = .duty 0 ∨ (vget s.part.channels m).request = .release) →
    let c := vget s.part.channels n
    let result : ProbeResult := if carried then .ok else .opened
    ∃ p, exec (.probeJudgement carried) s = .next { s with part := p } ∧ s.part.Outward p ∧
      (carried = true → (vget p.channels n).probeResult = .ok ∧ (vget p.channels n).openLoad = .none ∧
        p.isPresent .openLoad (outputUnit n) = (s.part.isPresent .openLoad (outputUnit n) && decide (c.openLoad = .none))) ∧
      (carried = false → (vget p.channels n).probeResult = .opened ∧ (vget p.channels n).openLoad = .passive ∧
        (c.openLoad = .none → p.isLatched .openLoad (outputUnit n) = true ∧
          p.isPresent .openLoad (outputUnit n) = true)) ∧
      (vget p.channels n).mode = .off ∧
      (∃ (r : Record) (rs : List Record), p.xu.records = s.part.xu.records ++ r :: rs ∧ r.kind = .driver ∧
        r.words[4 * n.val]? = some (wordOfNat Mode.probe.code) ∧
        r.words[4 * n.val + 3]? = some { c with
          probeResult := result, openLoad := if carried then c.openLoad else .passive }.statusWord) ∧
      (∀ m, m ≠ n → (vget p.channels m).probeResult = (vget s.part.channels m).probeResult) ∧
      ((∀ m, m ≠ n → (vget s.part.channels m).probeResult ≠ .pending) → p.stage.probe = none) ∧
      (∀ m, m ≠ n → (vget s.part.channels m).probeResult = .pending →
        (∀ l, l < m → l ≠ n → (vget s.part.channels l).probeResult ≠ .pending) →
        p.stage.probe = some m ∧ (vget p.channels m).mode = .probe ∧ (vget p.channels m).level = 2)) ∧
  (∀ (s : State) (n : Fin 6) (e : Instr), s.part.awake = true → s.part.stage.probe = some n →
    (s.part.angle.sync = .stopped ∧ ∃ t, e = .crankEdge t ∧ s.part.angle.rejects t = false) ∨
      (s.part.stage.shutdown = false ∧ ∃ x, e = .stageTemperatureSample x ∧ 170 ≤ x ∧ x ≤ 200) →
    ∃ p, exec e s = .next { s with part := p } ∧ p.stage.probe = none ∧
      (∀ m, (vget p.channels m).probeResult =
        (if (vget s.part.channels m).probeResult = .pending then .aborted else (vget s.part.channels m).probeResult)) ∧
      (∀ m, (vget s.part.channels m).mode = .probe → (vget p.channels m).mode = .off ∧ (vget p.channels m).level = 0) ∧
      (∀ t, e = .crankEdge t → p.angle.sync = .seeking ∧
        ∀ m, (vget p.channels m).request = (vget s.part.channels m).request))

/-- A stage sample between its thresholds only stores the temperature; from 140 °C the warning is raised; from 170 °C
the shutdown puts every channel in OFF, parks every driven phaser, drops every selector to LOW or FAULTED and latches
DRIVER_SHUTDOWN, the plan matches kept (R118, R119, R66, R103). -/
def Obligations.AStageSampleJudgesTheTemperature : Prop :=
  ∀ (s : State) (x : Int), s.part.awake = true → -40 ≤ x → x ≤ 200 →
    ((s.part.stage.warning = false → x < 140) → (s.part.stage.warning = true → 130 ≤ x) →
      (s.part.stage.shutdown = false → x < 170) → (s.part.stage.shutdown = true → 155 ≤ x) →
      exec (.stageTemperatureSample x) s = .next { s with part := { s.part with stage.temp := x } }) ∧
    (s.part.stage.warning = false → 140 ≤ x → ∃ p, exec (.stageTemperatureSample x) s = .next { s with part := p } ∧
      p.stage.warning = true ∧ p.isLatched .driverWarn 13 = true ∧ p.isPresent .driverWarn 13 = true) ∧
    (s.part.stage.warning = true → x < 130 → ∃ p, exec (.stageTemperatureSample x) s = .next { s with part := p } ∧
      p.stage.warning = false ∧ p.isPresent .driverWarn 13 = false) ∧
    (s.part.stage.shutdown = false → 170 ≤ x → ∃ p, exec (.stageTemperatureSample x) s = .next { s with part := p } ∧
      s.part.Outward p ∧ p.stage.shutdown = true ∧ p.stage.probe = none ∧ (∀ n, (vget p.channels n).mode = .off) ∧
      p.standby = true ∧ p.isLatched .driverShutdown 13 = true ∧ p.isPresent .driverShutdown 13 = true ∧
      (∀ j, vget p.slots (actionSlot j) = .idle ∧ vget p.slots (closeSlot j) = .idle ∧
        vget p.slots (planSlot j) = vget s.part.slots (planSlot j))) ∧
    (s.part.stage.shutdown = true → x < 155 → ∃ p, exec (.stageTemperatureSample x) s = .next { s with part := p } ∧
      p.stage.shutdown = false ∧ p.isPresent .driverShutdown 13 = false)

/-- The 10 ms refresh hands the driver status record over with the outputs and the stage as they stand, a channel in
OFF showing a measured current of 0, and changes nothing else (R108, R121). A standby tick outside the locked states
captures a pending snapshot that is not captured yet: the four phaser contexts, the two selector contexts and the angle
status as they stand, event 1 and the tick's time stamp; a tooth event captures it in the same way with event 0, after
the angle status record and, in CYCLE_LOCKED, a prompt offer's answer (order: log 65). No capture is made while the
word is not PENDING, or while a captured snapshot is being written (R149). The bits of the driver status words that no
table names are 0, as is the output being probed in IDLE (DESIGN CHOICE, log 72). -/
def Obligations.TheReportsShowTheStateAsItStands : Prop :=
  (∀ s : State, s.part.awake = true →
    ∃ ws : List Word, ws.length = 32 ∧ ws = s.part.driverWords ∧
      (∀ n : Fin 6, let c := vget s.part.channels n
        ws[4 * n.val]? = some (wordOfNat c.mode.code) ∧ ws[4 * n.val + 1]? = some (wordOfNat c.level) ∧
        ws[4 * n.val + 2]? = some (if c.mode = .off then 0 else wordOfNat c.measured) ∧
        ws[4 * n.val + 3]? = some (wordOfNat (c.openLoad.code + 4 * c.tripped.toNat + 16 * c.probeResult.code))) ∧
      ws[24]? = some (wordOfInt s.part.stage.temp) ∧
      ws[25]? = some (wordOfNat (s.part.stage.warning.toNat + 2 * s.part.stage.shutdown.toNat +
        4 * s.part.stage.discharge.toNat)) ∧
      (s.part.stage.probe = none → ws[26]? = some 0) ∧
      (∀ n, s.part.stage.probe = some n → ws[26]? = some (wordOfNat (1 + 256 * n.val))) ∧
      (∀ k, 27 ≤ k → k < 32 → ws[k]? = some 0) ∧
      (let r : Record := { kind := .driver, done := 0, words := ws, released := false }
       exec .driverStatusRefresh s = .next { s with part.xu.records := s.part.xu.records ++ [r] })) ∧
  (let shows (p : Part) (event : Nat) (r : Record) : Prop :=
      r.kind = .snapshot ∧ r.done = 0 ∧ r.released = false ∧ r.words.length = 203 ∧
      (∀ (i : Fin 4) (k : Nat), k < 32 → r.words[32 * i.val + k]? = (vget p.phasers i).words[k]?) ∧
      (∀ (j : Fin 2) (k : Nat), k < 32 → r.words[128 + 32 * j.val + k]? = (vget p.selectors j).words[k]?) ∧
      (∀ k, k < 8 → r.words[192 + k]? = p.angleWords[k]?) ∧ r.words[200]? = some (wordOfNat event) ∧
      r.words[201]? = some (p.clock.setWidth 16) ∧ r.words[202]? = some (wordOfNat (p.clock.toNat / 65536))
   (∀ (s : State) (t : Tick), s.part.awake = true → s.part.angle.locked = false → s.part.xu.offer = none →
      s.mem.read 0x00A = s.part.xu.seqSeen → s.part.xu.unchangedMs + 10 < s.part.cfg.staleMs →
      let p := { s.part with clock := t, xu.unchangedMs := s.part.xu.unchangedMs + 10 }
      (s.mem.read 0x00C = 1 → (∀ r ∈ s.part.xu.records, r.kind ≠ .snapshot) →
        ∃ r, shows p 1 r ∧
          exec (.standbyTick t) s = .next { s with part := { p with xu.records := s.part.xu.records ++ [r] } }) ∧
      (s.mem.read 0x00C ≠ 1 ∨ (∃ r ∈ s.part.xu.records, r.kind = .snapshot) →
        exec (.standbyTick t) s = .next { s with part := p })) ∧
   (∀ (p q : Part) (m : Mem),
      (p.angle.sync ≠ .cycleLocked ∨ p.xu.offer.map Offer.prompt ≠ some true) ∧ q = p.writeAngle ∨
        (∃ o, p.angle.sync = .cycleLocked ∧ p.xu.offer = some o ∧ o.prompt = true ∧
          q = p.writeAngle.answerOffer m o) →
      (m.read 0x00C = 1 → (∀ r ∈ q.xu.records, r.kind ≠ .snapshot) →
        ∃ r, shows q 0 r ∧ p.toothEvent m = { q with xu.records := q.xu.records ++ [r] }) ∧
      (m.read 0x00C ≠ 1 ∨ (∃ r ∈ q.xu.records, r.kind = .snapshot) → p.toothEvent m = q)))
end

