-- ==== Sys2Proof/Laws/State.lean ====
section
/-! SUPPORT. Reading a row after a replacement in it, and one lemma per field per update of the units: what each small
update leaves unchanged. -/

namespace Sys2Proof.Machine

/-! ## Rows -/

/-- An item of a row, by its index. -/
theorem vget_eq {α : Type} {n : Nat} (v : Vector α n) (i : Fin n) : vget v i = v[i.val] := rfl

@[simp] theorem vget_vset_same {α : Type} {n : Nat} (v : Vector α n) (i : Fin n) (x : α) : vget (vset v i x) i = x := by
  simp [vget_eq, vset]

theorem vget_vset_other {α : Type} {n : Nat} (v : Vector α n) (i j : Fin n) (x : α) (h : j ≠ i) :
    vget (vset v i x) j = vget v j := by
  have hv : i.val ≠ j.val := fun hij => h (Fin.ext hij.symm)
  simp [vget_eq, vset, hv]

theorem vget_vset {α : Type} {n : Nat} (v : Vector α n) (i j : Fin n) (x : α) :
    vget (vset v i x) j = if j = i then x else vget v j := by
  split
  · next h => subst h; simp
  · next h => exact vget_vset_other v i j x h

@[simp] theorem vget_replicate {α : Type} {n : Nat} (x : α) (i : Fin n) : vget (Vector.replicate n x) i = x := by
  simp [vget_eq]

/-! ## Records and causes -/

@[simp] theorem Part.handOver_records (kind : RecordKind) (words : List Word) (p : Part) :
    (p.handOver kind words).xu.records =
      p.xu.records ++ [{ kind := kind, done := 0, words := words, released := false }] := rfl

@[simp] theorem Part.handOver_rest (kind : RecordKind) (words : List Word) (p : Part) :
    (p.handOver kind words).xu.rest = p.xu.rest := rfl

@[simp] theorem Part.setCause_records (c : Cause) (p : Part) : (p.setCause c).xu.records = p.xu.records := rfl

@[simp] theorem Part.setCause_rest (c : Cause) (p : Part) : (p.setCause c).xu.rest = p.xu.rest := rfl

@[simp] theorem Part.setCause_attn (c : Cause) (p : Part) :
    (p.setCause c).xu.attn = p.xu.attn ||| BitVec.twoPow 8 c.bit := rfl

/-! ## Fields an update leaves -/

@[simp] theorem Part.handOver_clock (kind : RecordKind) (words : List Word) (p : Part) : (p.handOver kind words).clock = p.clock := rfl
@[simp] theorem Part.handOver_angle (kind : RecordKind) (words : List Word) (p : Part) : (p.handOver kind words).angle = p.angle := rfl
@[simp] theorem Part.handOver_slots (kind : RecordKind) (words : List Word) (p : Part) : (p.handOver kind words).slots = p.slots := rfl
@[simp] theorem Part.handOver_passes (kind : RecordKind) (words : List Word) (p : Part) : (p.handOver kind words).passes = p.passes := rfl
@[simp] theorem Part.handOver_cams (kind : RecordKind) (words : List Word) (p : Part) : (p.handOver kind words).cams = p.cams := rfl
@[simp] theorem Part.handOver_refTable (kind : RecordKind) (words : List Word) (p : Part) : (p.handOver kind words).refTable = p.refTable := rfl
@[simp] theorem Part.handOver_holdTable (kind : RecordKind) (words : List Word) (p : Part) : (p.handOver kind words).holdTable = p.holdTable := rfl
@[simp] theorem Part.handOver_phasers (kind : RecordKind) (words : List Word) (p : Part) : (p.handOver kind words).phasers = p.phasers := rfl
@[simp] theorem Part.handOver_demand (kind : RecordKind) (words : List Word) (p : Part) : (p.handOver kind words).demand = p.demand := rfl
@[simp] theorem Part.handOver_selectors (kind : RecordKind) (words : List Word) (p : Part) : (p.handOver kind words).selectors = p.selectors := rfl
@[simp] theorem Part.handOver_channels (kind : RecordKind) (words : List Word) (p : Part) : (p.handOver kind words).channels = p.channels := rfl
@[simp] theorem Part.handOver_stage (kind : RecordKind) (words : List Word) (p : Part) : (p.handOver kind words).stage = p.stage := rfl
@[simp] theorem Part.handOver_latched (kind : RecordKind) (words : List Word) (p : Part) : (p.handOver kind words).latched = p.latched := rfl
@[simp] theorem Part.handOver_present (kind : RecordKind) (words : List Word) (p : Part) : (p.handOver kind words).present = p.present := rfl
@[simp] theorem Part.handOver_config (kind : RecordKind) (words : List Word) (p : Part) : (p.handOver kind words).config = p.config := rfl
@[simp] theorem Part.handOver_power (kind : RecordKind) (words : List Word) (p : Part) : (p.handOver kind words).power = p.power := rfl
@[simp] theorem Part.handOver_fresh (kind : RecordKind) (words : List Word) (p : Part) : (p.handOver kind words).fresh = p.fresh := rfl

@[simp] theorem Part.setCause_clock (c : Cause) (p : Part) : (p.setCause c).clock = p.clock := rfl
@[simp] theorem Part.setCause_angle (c : Cause) (p : Part) : (p.setCause c).angle = p.angle := rfl
@[simp] theorem Part.setCause_slots (c : Cause) (p : Part) : (p.setCause c).slots = p.slots := rfl
@[simp] theorem Part.setCause_passes (c : Cause) (p : Part) : (p.setCause c).passes = p.passes := rfl
@[simp] theorem Part.setCause_cams (c : Cause) (p : Part) : (p.setCause c).cams = p.cams := rfl
@[simp] theorem Part.setCause_refTable (c : Cause) (p : Part) : (p.setCause c).refTable = p.refTable := rfl
@[simp] theorem Part.setCause_holdTable (c : Cause) (p : Part) : (p.setCause c).holdTable = p.holdTable := rfl
@[simp] theorem Part.setCause_phasers (c : Cause) (p : Part) : (p.setCause c).phasers = p.phasers := rfl
@[simp] theorem Part.setCause_demand (c : Cause) (p : Part) : (p.setCause c).demand = p.demand := rfl
@[simp] theorem Part.setCause_selectors (c : Cause) (p : Part) : (p.setCause c).selectors = p.selectors := rfl
@[simp] theorem Part.setCause_channels (c : Cause) (p : Part) : (p.setCause c).channels = p.channels := rfl
@[simp] theorem Part.setCause_stage (c : Cause) (p : Part) : (p.setCause c).stage = p.stage := rfl
@[simp] theorem Part.setCause_latched (c : Cause) (p : Part) : (p.setCause c).latched = p.latched := rfl
@[simp] theorem Part.setCause_present (c : Cause) (p : Part) : (p.setCause c).present = p.present := rfl
@[simp] theorem Part.setCause_config (c : Cause) (p : Part) : (p.setCause c).config = p.config := rfl
@[simp] theorem Part.setCause_power (c : Cause) (p : Part) : (p.setCause c).power = p.power := rfl
@[simp] theorem Part.setCause_fresh (c : Cause) (p : Part) : (p.setCause c).fresh = p.fresh := rfl

@[simp] theorem Part.cancelMatch_clock (k : Fin 24) (p : Part) : (p.cancelMatch k).clock = p.clock := rfl
@[simp] theorem Part.cancelMatch_angle (k : Fin 24) (p : Part) : (p.cancelMatch k).angle = p.angle := rfl
@[simp] theorem Part.cancelMatch_passes (k : Fin 24) (p : Part) : (p.cancelMatch k).passes = p.passes := rfl
@[simp] theorem Part.cancelMatch_cams (k : Fin 24) (p : Part) : (p.cancelMatch k).cams = p.cams := rfl
@[simp] theorem Part.cancelMatch_refTable (k : Fin 24) (p : Part) : (p.cancelMatch k).refTable = p.refTable := rfl
@[simp] theorem Part.cancelMatch_holdTable (k : Fin 24) (p : Part) : (p.cancelMatch k).holdTable = p.holdTable := rfl
@[simp] theorem Part.cancelMatch_phasers (k : Fin 24) (p : Part) : (p.cancelMatch k).phasers = p.phasers := rfl
@[simp] theorem Part.cancelMatch_demand (k : Fin 24) (p : Part) : (p.cancelMatch k).demand = p.demand := rfl
@[simp] theorem Part.cancelMatch_selectors (k : Fin 24) (p : Part) : (p.cancelMatch k).selectors = p.selectors := rfl
@[simp] theorem Part.cancelMatch_channels (k : Fin 24) (p : Part) : (p.cancelMatch k).channels = p.channels := rfl
@[simp] theorem Part.cancelMatch_stage (k : Fin 24) (p : Part) : (p.cancelMatch k).stage = p.stage := rfl
@[simp] theorem Part.cancelMatch_latched (k : Fin 24) (p : Part) : (p.cancelMatch k).latched = p.latched := rfl
@[simp] theorem Part.cancelMatch_present (k : Fin 24) (p : Part) : (p.cancelMatch k).present = p.present := rfl
@[simp] theorem Part.cancelMatch_config (k : Fin 24) (p : Part) : (p.cancelMatch k).config = p.config := rfl
@[simp] theorem Part.cancelMatch_xu (k : Fin 24) (p : Part) : (p.cancelMatch k).xu = p.xu := rfl
@[simp] theorem Part.cancelMatch_power (k : Fin 24) (p : Part) : (p.cancelMatch k).power = p.power := rfl
@[simp] theorem Part.cancelMatch_fresh (k : Fin 24) (p : Part) : (p.cancelMatch k).fresh = p.fresh := rfl

@[simp] theorem Part.unlatch_clock (k : Kind) (u : Unit15) (p : Part) : (p.unlatch k u).clock = p.clock := rfl
@[simp] theorem Part.unlatch_angle (k : Kind) (u : Unit15) (p : Part) : (p.unlatch k u).angle = p.angle := rfl
@[simp] theorem Part.unlatch_slots (k : Kind) (u : Unit15) (p : Part) : (p.unlatch k u).slots = p.slots := rfl
@[simp] theorem Part.unlatch_passes (k : Kind) (u : Unit15) (p : Part) : (p.unlatch k u).passes = p.passes := rfl
@[simp] theorem Part.unlatch_cams (k : Kind) (u : Unit15) (p : Part) : (p.unlatch k u).cams = p.cams := rfl
@[simp] theorem Part.unlatch_refTable (k : Kind) (u : Unit15) (p : Part) : (p.unlatch k u).refTable = p.refTable := rfl
@[simp] theorem Part.unlatch_holdTable (k : Kind) (u : Unit15) (p : Part) : (p.unlatch k u).holdTable = p.holdTable := rfl
@[simp] theorem Part.unlatch_phasers (k : Kind) (u : Unit15) (p : Part) : (p.unlatch k u).phasers = p.phasers := rfl
@[simp] theorem Part.unlatch_demand (k : Kind) (u : Unit15) (p : Part) : (p.unlatch k u).demand = p.demand := rfl
@[simp] theorem Part.unlatch_selectors (k : Kind) (u : Unit15) (p : Part) : (p.unlatch k u).selectors = p.selectors := rfl
@[simp] theorem Part.unlatch_channels (k : Kind) (u : Unit15) (p : Part) : (p.unlatch k u).channels = p.channels := rfl
@[simp] theorem Part.unlatch_stage (k : Kind) (u : Unit15) (p : Part) : (p.unlatch k u).stage = p.stage := rfl
@[simp] theorem Part.unlatch_present (k : Kind) (u : Unit15) (p : Part) : (p.unlatch k u).present = p.present := rfl
@[simp] theorem Part.unlatch_config (k : Kind) (u : Unit15) (p : Part) : (p.unlatch k u).config = p.config := rfl
@[simp] theorem Part.unlatch_xu (k : Kind) (u : Unit15) (p : Part) : (p.unlatch k u).xu = p.xu := rfl
@[simp] theorem Part.unlatch_power (k : Kind) (u : Unit15) (p : Part) : (p.unlatch k u).power = p.power := rfl
@[simp] theorem Part.unlatch_fresh (k : Kind) (u : Unit15) (p : Part) : (p.unlatch k u).fresh = p.fresh := rfl

@[simp] theorem Part.camReport_clock (i : Fin 4) (state : PhaserState) (confirmed : Bool) (p : Part) : (p.camReport i state confirmed).clock = p.clock := rfl
@[simp] theorem Part.camReport_angle (i : Fin 4) (state : PhaserState) (confirmed : Bool) (p : Part) : (p.camReport i state confirmed).angle = p.angle := rfl
@[simp] theorem Part.camReport_slots (i : Fin 4) (state : PhaserState) (confirmed : Bool) (p : Part) : (p.camReport i state confirmed).slots = p.slots := rfl
@[simp] theorem Part.camReport_passes (i : Fin 4) (state : PhaserState) (confirmed : Bool) (p : Part) : (p.camReport i state confirmed).passes = p.passes := rfl
@[simp] theorem Part.camReport_refTable (i : Fin 4) (state : PhaserState) (confirmed : Bool) (p : Part) : (p.camReport i state confirmed).refTable = p.refTable := rfl
@[simp] theorem Part.camReport_holdTable (i : Fin 4) (state : PhaserState) (confirmed : Bool) (p : Part) : (p.camReport i state confirmed).holdTable = p.holdTable := rfl
@[simp] theorem Part.camReport_phasers (i : Fin 4) (state : PhaserState) (confirmed : Bool) (p : Part) : (p.camReport i state confirmed).phasers = p.phasers := rfl
@[simp] theorem Part.camReport_demand (i : Fin 4) (state : PhaserState) (confirmed : Bool) (p : Part) : (p.camReport i state confirmed).demand = p.demand := rfl
@[simp] theorem Part.camReport_selectors (i : Fin 4) (state : PhaserState) (confirmed : Bool) (p : Part) : (p.camReport i state confirmed).selectors = p.selectors := rfl
@[simp] theorem Part.camReport_channels (i : Fin 4) (state : PhaserState) (confirmed : Bool) (p : Part) : (p.camReport i state confirmed).channels = p.channels := rfl
@[simp] theorem Part.camReport_stage (i : Fin 4) (state : PhaserState) (confirmed : Bool) (p : Part) : (p.camReport i state confirmed).stage = p.stage := rfl
@[simp] theorem Part.camReport_latched (i : Fin 4) (state : PhaserState) (confirmed : Bool) (p : Part) : (p.camReport i state confirmed).latched = p.latched := rfl
@[simp] theorem Part.camReport_present (i : Fin 4) (state : PhaserState) (confirmed : Bool) (p : Part) : (p.camReport i state confirmed).present = p.present := rfl
@[simp] theorem Part.camReport_config (i : Fin 4) (state : PhaserState) (confirmed : Bool) (p : Part) : (p.camReport i state confirmed).config = p.config := rfl
@[simp] theorem Part.camReport_xu (i : Fin 4) (state : PhaserState) (confirmed : Bool) (p : Part) : (p.camReport i state confirmed).xu = p.xu := rfl
@[simp] theorem Part.camReport_power (i : Fin 4) (state : PhaserState) (confirmed : Bool) (p : Part) : (p.camReport i state confirmed).power = p.power := rfl
@[simp] theorem Part.camReport_fresh (i : Fin 4) (state : PhaserState) (confirmed : Bool) (p : Part) : (p.camReport i state confirmed).fresh = p.fresh := rfl

@[simp] theorem Part.putNote_clock (m : Fin 16) (n : NoteSlot) (p : Part) : (p.putNote m n).clock = p.clock := rfl
@[simp] theorem Part.putNote_angle (m : Fin 16) (n : NoteSlot) (p : Part) : (p.putNote m n).angle = p.angle := rfl
@[simp] theorem Part.putNote_slots (m : Fin 16) (n : NoteSlot) (p : Part) : (p.putNote m n).slots = p.slots := rfl
@[simp] theorem Part.putNote_passes (m : Fin 16) (n : NoteSlot) (p : Part) : (p.putNote m n).passes = p.passes := rfl
@[simp] theorem Part.putNote_cams (m : Fin 16) (n : NoteSlot) (p : Part) : (p.putNote m n).cams = p.cams := rfl
@[simp] theorem Part.putNote_refTable (m : Fin 16) (n : NoteSlot) (p : Part) : (p.putNote m n).refTable = p.refTable := rfl
@[simp] theorem Part.putNote_holdTable (m : Fin 16) (n : NoteSlot) (p : Part) : (p.putNote m n).holdTable = p.holdTable := rfl
@[simp] theorem Part.putNote_phasers (m : Fin 16) (n : NoteSlot) (p : Part) : (p.putNote m n).phasers = p.phasers := rfl
@[simp] theorem Part.putNote_demand (m : Fin 16) (n : NoteSlot) (p : Part) : (p.putNote m n).demand = p.demand := rfl
@[simp] theorem Part.putNote_selectors (m : Fin 16) (n : NoteSlot) (p : Part) : (p.putNote m n).selectors = p.selectors := rfl
@[simp] theorem Part.putNote_channels (m : Fin 16) (n : NoteSlot) (p : Part) : (p.putNote m n).channels = p.channels := rfl
@[simp] theorem Part.putNote_stage (m : Fin 16) (n : NoteSlot) (p : Part) : (p.putNote m n).stage = p.stage := rfl
@[simp] theorem Part.putNote_latched (m : Fin 16) (n : NoteSlot) (p : Part) : (p.putNote m n).latched = p.latched := rfl
@[simp] theorem Part.putNote_present (m : Fin 16) (n : NoteSlot) (p : Part) : (p.putNote m n).present = p.present := rfl
@[simp] theorem Part.putNote_config (m : Fin 16) (n : NoteSlot) (p : Part) : (p.putNote m n).config = p.config := rfl
@[simp] theorem Part.putNote_power (m : Fin 16) (n : NoteSlot) (p : Part) : (p.putNote m n).power = p.power := rfl
@[simp] theorem Part.putNote_fresh (m : Fin 16) (n : NoteSlot) (p : Part) : (p.putNote m n).fresh = p.fresh := rfl

end Sys2Proof.Machine
end

