-- ==== Sys2Proof/Laws/Outward.lean ====
section
/-! SUPPORT. What the operations that carry a fault, a reaction, an output request or a report can change at most: each
of them is outward. A proof about a command cites these and does not unfold the operations. -/

namespace Sys2Proof.Machine

/-! ## The relations -/

theorem Part.Still.refl (p : Part) : p.Still p where
  refTable := rfl
  holdTable := rfl
  demand := rfl
  config := rfl
  power := rfl
  rest := rfl
  figures := fun _ => rfl
  driven := fun _ h => h
  records := ⟨[], by simp⟩

theorem Part.Still.trans {p q r : Part} (h : p.Still q) (k : q.Still r) : p.Still r where
  refTable := k.refTable.trans h.refTable
  holdTable := k.holdTable.trans h.holdTable
  demand := k.demand.trans h.demand
  config := k.config.trans h.config
  power := k.power.trans h.power
  rest := k.rest.trans h.rest
  figures := fun i => (k.figures i).trans (h.figures i)
  driven := fun i hi => h.driven i (k.driven i hi)
  records := by
    obtain ⟨a, ha⟩ := h.records
    obtain ⟨b, hb⟩ := k.records
    exact ⟨a ++ b, by rw [hb, ha, List.append_assoc]⟩

theorem Part.Outward.refl (p : Part) : p.Outward p where
  toStill := Part.Still.refl p
  clock := rfl
  angle := rfl
  passes := rfl
  fresh := rfl
  slots := fun _ => .inl rfl
  traces := fun _ => rfl

theorem Part.Outward.trans {p q r : Part} (h : p.Outward q) (k : q.Outward r) : p.Outward r where
  toStill := h.toStill.trans k.toStill
  clock := k.clock.trans h.clock
  angle := k.angle.trans h.angle
  passes := k.passes.trans h.passes
  fresh := k.fresh.trans h.fresh
  slots := fun n => by
    rcases k.slots n with hn | hn
    · rw [hn]; exact h.slots n
    · exact .inr hn
  traces := fun j => (k.traces j).trans (h.traces j)

/-- A run of outward operations is outward. -/
theorem Part.Outward.foldl {α : Type} (l : List α) (f : Part → α → Part) (hf : ∀ (p : Part) a, p.Outward (f p a)) (p : Part) :
    p.Outward (l.foldl f p) := by
  induction l generalizing p with
  | nil => exact .refl p
  | cons a l ih => exact (hf p a).trans (ih _)

/-- A run of still operations is still. -/
theorem Part.Still.foldl {α : Type} (l : List α) (f : Part → α → Part) (hf : ∀ (p : Part) a, p.Still (f p a)) (p : Part) :
    p.Still (l.foldl f p) := by
  induction l generalizing p with
  | nil => exact .refl p
  | cons a l ih => exact (hf p a).trans (ih _)

/-! ## The smallest steps -/

/-- A change of cams, channels, stage, fault sets, notes, causes and records alone. -/
theorem Part.Outward.units (p : Part) (cams : Vector CamPhaser 4) (channels : Vector Channel 6) (stage : Stage)
    (latched present : Vector KindSet 15) (xu : Exchange) (hr : xu.rest = p.xu.rest)
    (hs : ∃ rs, xu.records = p.xu.records ++ rs) :
    p.Outward { p with cams := cams, channels := channels, stage := stage, latched := latched, present := present,
                       xu := xu } where
  refTable := rfl
  holdTable := rfl
  demand := rfl
  config := rfl
  power := rfl
  rest := hr
  figures := fun _ => rfl
  records := hs
  clock := rfl
  angle := rfl
  passes := rfl
  fresh := rfl
  slots := fun _ => .inl rfl
  driven := fun _ h => h
  traces := fun _ => rfl

/-- A phaser's context that keeps its figures and comes under no control. -/
theorem Part.Outward.phaser (p : Part) (i : Fin 4) (c : PhaserCtx) (hf : c.figures = (vget p.phasers i).figures)
    (hd : c.state.driven = true → (vget p.phasers i).state.driven = true) :
    p.Outward { p with phasers := vset p.phasers i c } where
  refTable := rfl
  holdTable := rfl
  demand := rfl
  config := rfl
  power := rfl
  rest := rfl
  figures := fun k => by
    by_cases h : k = i
    · subst h; simpa using hf
    · simp [vget_vset_other _ _ _ _ h]
  records := ⟨[], by simp⟩
  clock := rfl
  angle := rfl
  passes := rfl
  fresh := rfl
  slots := fun _ => .inl rfl
  driven := fun k => by
    by_cases h : k = i
    · subst h; simpa using hd
    · simp [vget_vset_other _ _ _ _ h]
  traces := fun _ => rfl

/-- A selector's context that keeps its plan trace. -/
theorem Part.Outward.selector (p : Part) (j : Fin 2) (c : SelectorCtx) (ht : c.trace = (vget p.selectors j).trace) :
    p.Outward { p with selectors := vset p.selectors j c } where
  refTable := rfl
  holdTable := rfl
  demand := rfl
  config := rfl
  power := rfl
  rest := rfl
  figures := fun _ => rfl
  records := ⟨[], by simp⟩
  clock := rfl
  angle := rfl
  passes := rfl
  fresh := rfl
  slots := fun _ => .inl rfl
  driven := fun _ h => h
  traces := fun k => by
    by_cases h : k = j
    · subst h; simpa using ht
    · simp [vget_vset_other _ _ _ _ h]

theorem Part.handOver_outward (kind : RecordKind) (words : List Word) (p : Part) : p.Outward (p.handOver kind words) :=
  .units p p.cams p.channels p.stage p.latched p.present _ rfl ⟨_, rfl⟩

theorem Part.setCause_outward (c : Cause) (p : Part) : p.Outward (p.setCause c) :=
  .units p p.cams p.channels p.stage p.latched p.present _ rfl ⟨[], by simp⟩

theorem Part.putNote_outward (m : Fin 16) (n : NoteSlot) (p : Part) : p.Outward (p.putNote m n) :=
  .units p p.cams p.channels p.stage p.latched p.present _ rfl ⟨_, rfl⟩

theorem Part.note_outward (k : NoteKind) (u : Unit15) (d : Detail) (p : Part) : p.Outward (p.note k u d) := by
  unfold Part.note
  split
  · exact p.putNote_outward _ _
  · split
    · exact .units p p.cams p.channels p.stage p.latched p.present _ rfl ⟨_, rfl⟩
    · exact .units p p.cams p.channels p.stage p.latched p.present _ rfl ⟨[], by simp⟩

theorem Part.cancelMatch_outward (k : Fin 24) (p : Part) : p.Outward (p.cancelMatch k) :=
  { Part.Outward.refl p with
    slots := fun n => by
      by_cases h : n = k
      · subst h; simp [Part.cancelMatch]
      · simp [Part.cancelMatch, vget_vset_other _ _ _ _ h] }

theorem Part.camReport_outward (i : Fin 4) (state : PhaserState) (confirmed : Bool) (p : Part) :
    p.Outward (p.camReport i state confirmed) :=
  .units p _ p.channels p.stage p.latched p.present p.xu rfl ⟨[], by simp⟩

theorem Part.unlatch_outward (k : Kind) (u : Unit15) (p : Part) : p.Outward (p.unlatch k u) :=
  .units p p.cams p.channels p.stage _ p.present p.xu rfl ⟨[], by simp⟩

theorem Part.latch_outward (k : Kind) (u : Unit15) (present : Bool) (p : Part) : p.Outward (p.latch k u present) := by
  unfold Part.latch
  split
  · exact .units p p.cams p.channels p.stage _ _ p.xu rfl ⟨[], by simp⟩
  · exact .units p p.cams p.channels p.stage _ p.present p.xu rfl ⟨[], by simp⟩

/-! ## Releases from fault and cease reports (R123, R132) -/

theorem Part.releasePhaser_outward (i : Fin 4) (p : Part) : p.Outward (p.releasePhaser i) := by
  unfold Part.releasePhaser
  dsimp only
  have h1 := Part.Outward.phaser p i { vget p.phasers i with state := .parked, confirmed := false, settle := 0 } rfl
    (by simp [PhaserState.driven])
  exact (h1.trans (Part.camReport_outward i _ _ _)).trans (Part.handOver_outward _ _ _)

theorem Part.releaseSelector_outward (j : Fin 2) (p : Part) : p.Outward (p.releaseSelector j) := by
  unfold Part.releaseSelector
  have h1 := Part.Outward.selector p j { vget p.selectors j with state := .low } rfl
  refine (h1.trans ?_).trans (Part.handOver_outward _ _ _)
  exact .units _ _ _ _ _ _ _ rfl ⟨[], by simp⟩

theorem Part.judgePhaser_outward (i : Fin 4) (p : Part) : p.Outward (p.judgePhaser i) := by
  unfold Part.judgePhaser
  split
  · exact p.releasePhaser_outward i
  · exact .refl p

theorem Part.judgeSelector_outward (j : Fin 2) (p : Part) : p.Outward (p.judgeSelector j) := by
  unfold Part.judgeSelector
  split
  · exact p.releaseSelector_outward j
  · exact .refl p

theorem Part.judgeReleases_outward (p : Part) : p.Outward p.judgeReleases :=
  (Part.Outward.foldl _ _ (fun p i => p.judgePhaser_outward i) p).trans
    (Part.Outward.foldl _ _ (fun p j => p.judgeSelector_outward j) _)

theorem Part.cease_outward (k : Kind) (u : Unit15) (p : Part) : p.Outward (p.cease k u) := by
  have h1 : p.Outward { p with present := vset p.present u (KindSet.drop (vget p.present u) k) } :=
    .units p p.cams p.channels p.stage p.latched _ p.xu rfl ⟨[], by simp⟩
  unfold Part.cease
  split
  · dsimp only
    split
    · exact ((h1.trans (Part.unlatch_outward k u _)).trans (Part.handOver_outward _ _ _)).trans
        (Part.judgeReleases_outward _)
    · exact h1.trans (Part.handOver_outward _ _ _)
  · exact .refl p

/-! ## Output channels (R105 to R109) -/

theorem Part.putChannel_outward (n : Fin 6) (c : Channel) (p : Part) : p.Outward (p.putChannel n c) := by
  have h1 : p.Outward { p with channels := vset p.channels n c } :=
    .units p p.cams _ p.stage p.latched p.present p.xu rfl ⟨[], by simp⟩
  unfold Part.putChannel
  dsimp only
  split
  · exact h1.trans (Part.handOver_outward _ _ _)
  · exact h1

theorem Part.putStage_outward (g : Stage) (p : Part) : p.Outward (p.putStage g) := by
  have h1 : p.Outward { p with stage := g } := .units p p.cams p.channels _ p.latched p.present p.xu rfl ⟨[], by simp⟩
  unfold Part.putStage
  dsimp only
  split
  · exact h1.trans (Part.handOver_outward _ _ _)
  · exact h1

theorem Part.channelOff_outward (n : Fin 6) (p : Part) : p.Outward (p.channelOff n) := by
  unfold Part.channelOff
  dsimp only
  split
  · exact .refl p
  · split
    · exact (p.putChannel_outward n _).trans (Part.cease_outward _ _ _)
    · exact p.putChannel_outward n _

theorem Part.startPeriod_outward (n : Fin 6) (d : Nat) (p : Part) : p.Outward (p.startPeriod n d) :=
  p.putChannel_outward n _

theorem Part.enterPeak_outward (n : Fin 6) (peak : Nat) (p : Part) : p.Outward (p.enterPeak n peak) :=
  p.putChannel_outward n _

theorem Part.applyRequest_outward (n : Fin 6) (p : Part) : p.Outward (p.applyRequest n) := by
  unfold Part.applyRequest
  dsimp only
  split
  · exact p.channelOff_outward n
  · split
    · exact .refl p
    · split
      · exact p.channelOff_outward n
      · exact p.enterPeak_outward n _
      · split
        · exact p.channelOff_outward n
        · split
          · exact .refl p
          · exact p.startPeriod_outward n _

theorem Part.request_outward (n : Fin 6) (r : Request) (p : Part) : p.Outward (p.request n r) :=
  (Part.Outward.units p p.cams _ p.stage p.latched p.present p.xu rfl ⟨[], by simp⟩).trans
    (Part.applyRequest_outward n _)

theorem Part.applyAll_outward (p : Part) : p.Outward p.applyAll := .foldl _ _ (fun p n => p.applyRequest_outward n) p

theorem Part.allOff_outward (p : Part) : p.Outward p.allOff := .foldl _ _ (fun p n => p.channelOff_outward n) p

theorem Part.probeNext_outward (p : Part) : p.Outward p.probeNext := by
  unfold Part.probeNext
  dsimp only
  split
  · exact p.putStage_outward _
  · split
    · exact p.putStage_outward _
    · exact (p.putStage_outward _).trans (Part.putChannel_outward _ _ _)

theorem Part.startProbe_outward (mask : Word) (p : Part) : p.Outward (p.startProbe mask) := by
  unfold Part.startProbe
  refine (Part.Outward.foldl _ _ (fun p n => ?_) p).trans (Part.probeNext_outward _)
  split
  · exact p.putChannel_outward n _
  · exact .refl p

theorem Part.abortProbe_outward (p : Part) : p.Outward p.abortProbe := by
  unfold Part.abortProbe
  split
  · exact .refl p
  · exact (Part.Outward.foldl _ _ (fun p n => p.putChannel_outward n _) p).trans (Part.putStage_outward _ _)

theorem Part.askProbe_outward (mask : Word) (p : Part) : p.Outward (p.askProbe mask) := by
  unfold Part.askProbe
  split
  · exact .refl p
  · split
    · exact p.note_outward _ _ _
    · exact p.startProbe_outward mask

/-! ## Phasers (R46, R57, R59, R60, R62, R63, R65) -/

theorem Part.endTracking_outward (i : Fin 4) (old new : PhaserState) (p : Part) :
    p.Outward (p.endTracking i old new) := by
  unfold Part.endTracking
  split
  · exact p.cease_outward _ _
  · exact .refl p

/-- Storing a context that keeps its figures and comes under no control is outward. -/
theorem Part.storePhaser_outward (i : Fin 4) (c : PhaserCtx) (p : Part)
    (hf : c.figures = (vget p.phasers i).figures)
    (hd : c.state.driven = true → (vget p.phasers i).state.driven = true) : p.Outward (p.storePhaser i c) := by
  unfold Part.storePhaser
  dsimp only
  have h1 := Part.Outward.phaser p i c hf hd
  split <;> split
  · exact (h1.trans (Part.camReport_outward _ _ _ _)).trans (Part.request_outward _ _ _)
  · exact h1.trans (Part.request_outward _ _ _)
  · exact h1.trans (Part.camReport_outward _ _ _ _)
  · exact h1

/-- Changing a context that keeps its figures and comes under no control is outward. -/
theorem Part.changePhaser_outward (i : Fin 4) (c : PhaserCtx) (p : Part)
    (hf : c.figures = (vget p.phasers i).figures)
    (hd : c.state.driven = true → (vget p.phasers i).state.driven = true) : p.Outward (p.changePhaser i c) := by
  unfold Part.changePhaser
  dsimp only
  have h1 := p.storePhaser_outward i c hf hd
  split
  · exact (h1.trans (Part.handOver_outward _ _ _)).trans (Part.endTracking_outward _ _ _ _)
  · exact h1.trans (Part.endTracking_outward _ _ _ _)

theorem Part.forcePhaser_outward (i : Fin 4) (p : Part) : p.Outward (p.forcePhaser i) := by
  unfold Part.forcePhaser
  dsimp only
  split
  · exact .refl p
  · exact p.changePhaser_outward i _ rfl (by simp [PhaserCtx.toFaulted, PhaserState.driven])

theorem Part.parkPhaser_outward (i : Fin 4) (p : Part) : p.Outward (p.parkPhaser i) := by
  unfold Part.parkPhaser
  dsimp only
  split
  case h_1 h => exact p.changePhaser_outward i _ rfl (by simp [h, PhaserState.driven])
  case h_2 h => exact p.changePhaser_outward i _ rfl (by simp [h, PhaserState.driven])
  case h_3 h => exact p.changePhaser_outward i _ rfl (by simp [h, PhaserState.driven])
  all_goals exact .refl p

theorem Part.dropPhaser_outward (i : Fin 4) (p : Part) : p.Outward (p.dropPhaser i) := by
  unfold Part.dropPhaser
  dsimp only
  split
  · exact p.changePhaser_outward i _ rfl (by simp [PhaserCtx.toParked, PhaserState.driven])
  · exact .refl p

theorem Part.dropPhasers_outward (p : Part) : p.Outward p.dropPhasers := .foldl _ _ (fun p i => p.dropPhaser_outward i) p

/-- A hold keeps the figures and brings no phaser under control. -/
theorem PhaserCtx.takeHold_keeps (c : PhaserCtx) :
    c.takeHold.figures = c.figures ∧ (c.takeHold.state.driven = true → c.state.driven = true) := by
  unfold PhaserCtx.takeHold
  split <;> rename_i h <;> simp [h, PhaserCtx.figures, PhaserState.driven]

/-- A release keeps the figures and brings no phaser under control. -/
theorem PhaserCtx.takeRelease_keeps (c : PhaserCtx) :
    c.takeRelease.figures = c.figures ∧ (c.takeRelease.state.driven = true → c.state.driven = true) := by
  unfold PhaserCtx.takeRelease
  split
  · next h => simp [h.1, PhaserCtx.figures, PhaserState.driven]
  · simp [PhaserCtx.figures]

theorem Part.holdHead_outward (j : Fin 2) (p : Part) : p.Outward (p.holdHead j) :=
  (p.changePhaser_outward _ _ (PhaserCtx.takeHold_keeps _).1 (PhaserCtx.takeHold_keeps _).2).trans
    (Part.changePhaser_outward _ _ _ (PhaserCtx.takeHold_keeps _).1 (PhaserCtx.takeHold_keeps _).2)

theorem Part.releaseHead_outward (j : Fin 2) (p : Part) : p.Outward (p.releaseHead j) :=
  (p.changePhaser_outward _ _ (PhaserCtx.takeRelease_keeps _).1 (PhaserCtx.takeRelease_keeps _).2).trans
    (Part.changePhaser_outward _ _ _ (PhaserCtx.takeRelease_keeps _).1 (PhaserCtx.takeRelease_keeps _).2)

/-! ## Selectors (R87, R88, R102 to R104) -/

/-- Changing a selector's context that keeps its plan trace is outward. -/
theorem Part.changeSelector_outward (j : Fin 2) (c : SelectorCtx) (p : Part)
    (ht : c.trace = (vget p.selectors j).trace) : p.Outward (p.changeSelector j c) := by
  have h1 := Part.Outward.selector p j c ht
  unfold Part.changeSelector
  dsimp only
  split
  · exact h1
  · have h2 : p.Outward (match Part.entryRequest { p with selectors := vset p.selectors j c } j c.state with
        | some r => Part.request (selectorOutput j) r { p with selectors := vset p.selectors j c }
        | none => { p with selectors := vset p.selectors j c }) := by
      split
      · exact h1.trans (Part.request_outward _ _ _)
      · exact h1
    have h3 := h2.trans (Part.handOver_outward (.selector j) (vget (match Part.entryRequest
        { p with selectors := vset p.selectors j c } j c.state with
        | some r => Part.request (selectorOutput j) r { p with selectors := vset p.selectors j c }
        | none => { p with selectors := vset p.selectors j c }).selectors j).words _)
    split
    · exact h3.trans (Part.cease_outward _ _ _)
    · exact h3

/-- A cut and cleared context keeps its plan trace. -/
theorem SelectorCtx.cleared_trace (c : SelectorCtx) (cycle : Nat) (next : SelectorState) :
    { (c.cutShort cycle).cleared with state := next }.trace = c.trace := by
  unfold SelectorCtx.cutShort
  split <;> rfl

theorem Part.dropSelector_outward (j : Fin 2) (p : Part) : p.Outward (p.dropSelector j) := by
  unfold Part.dropSelector
  dsimp only
  split
  · exact .refl p
  · have hn : p.Outward (if (vget p.selectors j).state.notesDrop = true then
        p.note .selectorDropped (selectorUnit j) (detailOf ↑(vget p.selectors j).state.code) else p) := by
      split
      · exact p.note_outward _ _ _
      · exact .refl p
    generalize hq : (if (vget p.selectors j).state.notesDrop = true then
        p.note .selectorDropped (selectorUnit j) (detailOf ↑(vget p.selectors j).state.code) else p) = q at hn
    have hr : p.Outward (if (vget p.selectors j).state.shifting = true then q.releaseHead j else q) := by
      split
      · exact hn.trans (q.releaseHead_outward j)
      · exact hn
    exact hr.trans (Part.changeSelector_outward j _ _ ((SelectorCtx.cleared_trace _ _ _).trans (hr.traces j).symm))

theorem Part.dropSelectors_outward (p : Part) : p.Outward p.dropSelectors :=
  .foldl _ _ (fun p j => p.dropSelector_outward j) p

theorem Part.cancelShift_outward (j : Fin 2) (p : Part) : p.Outward (p.cancelShift j) :=
  (p.cancelMatch_outward _).trans (Part.cancelMatch_outward _ _)

theorem Part.forceSelector_outward (j : Fin 2) (p : Part) : p.Outward (p.forceSelector j) := by
  unfold Part.forceSelector
  dsimp only
  split
  · exact .refl p
  · have hn := p.cancelShift_outward j
    have hr : p.Outward (if (vget p.selectors j).state.shifting = true then (p.cancelShift j).releaseHead j
        else p.cancelShift j) := by
      split
      · exact hn.trans (Part.releaseHead_outward j _)
      · exact hn
    exact hr.trans (Part.changeSelector_outward j _ _ ((SelectorCtx.cleared_trace _ _ _).trans (hr.traces j).symm))

/-! ## Taking a raise (R124, R125, R127) -/

theorem Part.react_outward (u : Unit15) (r : Reaction) (p : Part) : p.Outward (p.react u r) := by
  cases r <;> unfold Part.react <;> dsimp only <;> split <;>
    first
    | exact p.forcePhaser_outward _
    | exact p.parkPhaser_outward _
    | exact p.forceSelector_outward _
    | exact .refl p

/-- A raise, first or repeated, is outward. -/
theorem Part.raise_outward (k : Kind) (u : Unit15) (d : Detail) (present : Bool) (p : Part) :
    p.Outward (p.raise k u d present) := by
  have h1 := (p.latch_outward k u present).trans (Part.handOver_outward .summary (p.latch k u present).summaryWords _)
  unfold Part.raise
  dsimp only
  split
  · exact ((h1.trans (Part.react_outward _ _ _)).trans (Part.note_outward _ _ _ _)).trans (Part.setCause_outward _ _)
  · exact (h1.trans (Part.note_outward _ _ _ _)).trans (Part.setCause_outward _ _)

end Sys2Proof.Machine
end

