-- ==== Sys2Proof/Laws/Still.lean ====
section
/-! SUPPORT. What the engine's events change at most when they are no update, no learning edge and no adoption: planning,
switching and window closes, marks, stalls, changes of sync state, passes and window checks are still. -/

namespace Sys2Proof.Machine

/-! ## The smallest steps -/

/-- A tooth that takes no new mark window leaves the slots as the arrival found them. -/
@[simp] theorem slotsBefore_of_eq {found now : Part} (h : found.angle.newWindow = now.angle.newWindow) :
    slotsBefore found now = found.slots := if_pos h

/-- A tooth that takes a new mark window has emptied slot 23. -/
@[simp] theorem slotsBefore_of_ne {found now : Part} (h : found.angle.newWindow ≠ now.angle.newWindow) :
    slotsBefore found now = vset found.slots 23 .idle := if_neg h

/-- A change of clock, angle, slots, passes, cams and counters alone. -/
theorem Part.Still.engine (p : Part) (clock : Tick) (angle : AngleUnit) (slots : Vector MatchSlot 24)
    (passes : Vector Pass 16) (cams : Vector CamPhaser 4) (selectors : Vector SelectorCtx 2) (fresh : Nat)
    (first : Bool) :
    p.Still { p with clock := clock, angle := angle, slots := slots, passes := passes, cams := cams,
                     selectors := selectors, fresh := fresh, xu.firstJournal := first } where
  refTable := rfl
  holdTable := rfl
  demand := rfl
  config := rfl
  power := rfl
  rest := rfl
  figures := fun _ => rfl
  driven := fun _ h => h
  records := ⟨[], by simp⟩

theorem Part.requestMatch_still (k : Fin 24) (x : Nat) (kind : MatchKind) (p : Part) : p.Still (p.requestMatch k x kind) := by
  unfold Part.requestMatch
  split
  · exact .engine p p.clock p.angle _ p.passes p.cams p.selectors p.fresh p.xu.firstJournal
  · exact .refl p

/-- A selector's context stored without a change of state. -/
theorem Part.Still.selectors (p : Part) (v : Vector SelectorCtx 2) (n : Nat) :
    p.Still { p with selectors := v, fresh := n } :=
  .engine p p.clock p.angle p.slots p.passes p.cams v n p.xu.firstJournal

/-- A new angle record is still. -/
theorem Part.Still.withAngle (p : Part) (g : AngleUnit) : p.Still { p with angle := g } :=
  .engine p p.clock g p.slots p.passes p.cams p.selectors p.fresh p.xu.firstJournal

/-- A new reading of the clock is still. -/
theorem Part.Still.withClock (p : Part) (t : Tick) : p.Still { p with clock := t } :=
  .engine p t p.angle p.slots p.passes p.cams p.selectors p.fresh p.xu.firstJournal

/-- A new count of examinations owed is still. -/
theorem Part.Still.withExamineOwed (p : Part) (n : Nat) : p.Still { p with xu.examineOwed := n } where
  refTable := rfl
  holdTable := rfl
  demand := rfl
  config := rfl
  power := rfl
  rest := rfl
  figures := fun _ => rfl
  driven := fun _ h => h
  records := ⟨[], by simp⟩

/-- Any change of a selector's context is still. -/
theorem Part.changeSelector_still (j : Fin 2) (c : SelectorCtx) (p : Part) : p.Still (p.changeSelector j c) := by
  have h1 := Part.Still.selectors p (vset p.selectors j c) p.fresh
  unfold Part.changeSelector
  dsimp only
  split
  · exact h1
  · have h2 : p.Still (match Part.entryRequest { p with selectors := vset p.selectors j c } j c.state with
        | some r => Part.request (selectorOutput j) r { p with selectors := vset p.selectors j c }
        | none => { p with selectors := vset p.selectors j c }) := by
      split
      · exact h1.trans (Part.request_outward _ _ _).toStill
      · exact h1
    have h3 := h2.trans (Part.handOver_outward (.selector j) (vget (match Part.entryRequest
        { p with selectors := vset p.selectors j c } j c.state with
        | some r => Part.request (selectorOutput j) r { p with selectors := vset p.selectors j c }
        | none => { p with selectors := vset p.selectors j c }).selectors j).words _).toStill
    split
    · exact h3.trans (Part.cease_outward _ _ _).toStill
    · exact h3

/-! ## Selectors (R91 to R100) -/

theorem Part.deferPlan_still (j : Fin 2) (reason : DeferReason) (p : Part) : p.Still (p.deferPlan j reason) := by
  have h1 := Part.Still.selectors p
    (vset p.selectors j ((vget p.selectors j).deferred reason (p.selectorCfg j).deferLimit)) p.fresh
  unfold Part.deferPlan
  dsimp only
  split
  · exact h1.trans (Part.note_outward _ _ _ _).toStill
  · exact h1

theorem Part.beginShift_still (j : Fin 2) (c : SelectorCtx) (p : Part) : p.Still (p.beginShift j c) :=
  ((p.changeSelector_still j c).trans (Part.holdHead_outward j _).toStill).trans (Part.requestMatch_still _ _ _ _)

theorem Part.energiseMatch_still (j : Fin 2) (late : Bool) (p : Part) : p.Still (p.energiseMatch j late) := by
  unfold Part.energiseMatch
  dsimp only
  split
  · exact (p.deferPlan_still j _).trans (Part.changeSelector_still j _ _)
  · split
    · exact (p.deferPlan_still j _).trans (Part.changeSelector_still j _ _)
    · exact p.beginShift_still j _

theorem Part.releaseMatch_still (j : Fin 2) (late : Bool) (p : Part) : p.Still (p.releaseMatch j late) := by
  have hc : ∀ reason, p.Still (if (vget (p.deferPlan j reason).selectors j).owedPlan = true then
      (p.deferPlan j reason).changeSelector j
        { vget (p.deferPlan j reason).selectors j with releaseOwed := true, owedPlan := false }
      else (p.deferPlan j reason).changeSelector j
        { vget (p.deferPlan j reason).selectors j with state := .high, lastShiftResult := .cancelled }) := by
    intro reason
    split
    · exact (p.deferPlan_still j _).trans (Part.changeSelector_still j _ _)
    · exact (p.deferPlan_still j _).trans (Part.changeSelector_still j _ _)
  unfold Part.releaseMatch
  dsimp only
  split
  · exact hc .late
  · split
    · exact hc .phasers
    · exact p.beginShift_still j _

theorem Part.actionMatch_still (j : Fin 2) (late : Bool) (p : Part) : p.Still (p.actionMatch j late) := by
  unfold Part.actionMatch
  split
  · exact p.energiseMatch_still j late
  · exact p.releaseMatch_still j late
  all_goals exact .refl p

theorem Part.deferAtPlan_still (j : Fin 2) (reason : DeferReason) (p : Part) : p.Still (p.deferAtPlan j reason) :=
  (p.deferPlan_still j reason).trans (Part.handOver_outward _ _ _).toStill

theorem Part.takePlan_still (j : Fin 2) (c : SelectorCtx) (p : Part) : p.Still (p.takePlan j c) := by
  unfold Part.takePlan
  split
  · exact (Part.Still.selectors p (vset p.selectors j { c with releaseOwed := false, owedPlan := true })
      p.fresh).trans (Part.handOver_outward _ _ _).toStill
  all_goals exact p.changeSelector_still j _

theorem Part.armPlan_still (j : Fin 2) (ref : Nat) (p : Part) : p.Still (p.armPlan j ref) := by
  unfold Part.armPlan
  dsimp only
  split
  · exact (p.takePlan_still j _).trans (Part.actionMatch_still j false _)
  · exact (p.takePlan_still j _).trans (Part.requestMatch_still _ _ _ _)

theorem Part.plan_still (j : Fin 2) (up : Bool) (ref : Nat) (p : Part) : p.Still (p.plan j up ref) := by
  unfold Part.plan
  split
  · exact p.deferAtPlan_still j _
  · dsimp only
    split
    · exact (Part.Still.selectors p _ _).trans (Part.deferAtPlan_still j _ _)
    · exact (Part.Still.selectors p _ _).trans (Part.armPlan_still j _ _)

theorem Part.planMatch_still (j : Fin 2) (late : Bool) (p : Part) : p.Still (p.planMatch j late) := by
  have h1 := p.requestMatch_still (planSlot j) (p.selectorCfg j).planAngle .cycle
  unfold Part.planMatch
  dsimp only
  split
  · exact h1.trans (Part.plan_still j _ _ _)
  · exact h1.trans (Part.Still.selectors _ _ _)
  · exact h1.trans (Part.plan_still j _ _ _)
  · split
    · exact h1.trans (Part.plan_still j _ _ _)
    · exact h1.trans (Part.Still.selectors _ _ _)
  all_goals exact h1.trans (Part.Still.selectors _ _ _)

theorem Part.closeUp_still (j : Fin 2) (p : Part) : p.Still (p.closeUp j) := by
  have h1 := (p.releaseHead_outward j).toStill
  unfold Part.closeUp
  dsimp only
  split
  · exact h1.trans (Part.changeSelector_still j _ _)
  · split
    · exact (h1.trans (Part.raise_outward _ _ _ _ _).toStill).trans (Part.changeSelector_still j _ _)
    · exact h1.trans (Part.changeSelector_still j _ _)

theorem Part.closeDown_still (j : Fin 2) (p : Part) : p.Still (p.closeDown j) := by
  have h1 := (p.releaseHead_outward j).toStill
  unfold Part.closeDown
  dsimp only
  split <;> exact h1.trans (Part.changeSelector_still j _ _)

theorem Part.closeMatch_still (j : Fin 2) (p : Part) : p.Still (p.closeMatch j) := by
  unfold Part.closeMatch
  split
  · exact p.closeUp_still j
  · exact p.closeDown_still j
  all_goals exact .refl p

theorem Part.dipReport_outward (j : Fin 2) (p : Part) : p.Outward (p.dipReport j) := by
  unfold Part.dipReport
  dsimp only
  split
  · exact (Part.Outward.selector p j { vget p.selectors j with dipSeen := true } rfl).trans
      (Part.handOver_outward _ _ _)
  · exact .refl p

/-! ## Passes and window checks (R30, R35, R37) -/

theorem Part.setupPass_still (entry : Bool) (i k : Fin 4) (p : Part) : p.Still (p.setupPass entry i k) :=
  (Part.Still.engine p p.clock p.angle p.slots _ p.cams p.selectors p.fresh p.xu.firstJournal).trans
    (Part.requestMatch_still _ _ _ _)

theorem Part.setupPasses_still (p : Part) : p.Still p.setupPasses :=
  .foldl _ _ (fun p i => .foldl _ _ (fun p k => p.setupPass_still true i k) p) p

theorem Part.clearPasses_still (p : Part) : p.Still p.clearPasses :=
  .foldl _ _ (fun p _ => .engine p p.clock p.angle p.slots _ p.cams p.selectors p.fresh p.xu.firstJournal) p

theorem Part.Still.withCams (p : Part) (v : Vector CamPhaser 4) : p.Still { p with cams := v } :=
  .engine p p.clock p.angle p.slots p.passes v p.selectors p.fresh p.xu.firstJournal

theorem Part.anomaly_still (i : Fin 4) (miss : Option (Fin 4)) (p : Part) : p.Still (p.anomaly i miss) := by
  unfold Part.anomaly
  dsimp only
  split
  · exact .refl p
  · split
    · exact (Part.Still.withCams p _).trans (Part.raise_outward _ _ _ _ _).toStill
    · exact Part.Still.withCams p _

theorem Part.windowCheck_still (i k : Fin 4) (p : Part) : p.Still (p.windowCheck i k) := by
  unfold Part.windowCheck
  dsimp only
  split
  · exact (((Part.Still.withCams p _).trans (Part.anomaly_still i _ _)).trans (Part.Still.withCams _ _)).trans
      (Part.setupPass_still _ _ _ _)
  · exact (Part.Still.withCams p _).trans (Part.setupPass_still _ _ _ _)

/-! ## Sync state, marks and stalls (R10 to R14, R20 to R24) -/

theorem Part.requestPlans_still (p : Part) : p.Still p.requestPlans :=
  .foldl _ _ (fun p _ => p.requestMatch_still _ _ _) p

theorem Part.requestAdoption_still (p : Part) : p.Still p.requestAdoption := p.requestMatch_still _ _ _

theorem Part.enterCycle_still (p : Part) : p.Still p.enterCycle := by
  have h1 : p.Still { p with xu.firstJournal := true } :=
    .engine p p.clock p.angle p.slots p.passes p.cams p.selectors p.fresh true
  unfold Part.enterCycle
  dsimp only
  split
  · exact ((h1.trans (Part.setupPasses_still _)).trans (Part.requestPlans_still _)).trans (Part.requestAdoption_still _)
  · exact h1

theorem Part.requestMark_still (p : Part) : p.Still p.requestMark := by
  unfold Part.requestMark
  split
  · split
    · exact p.requestMatch_still _ _ _
    · exact .refl p
  · exact .refl p

theorem Part.cancelKind_outward (kind : MatchKind) (p : Part) : p.Outward (p.cancelKind kind) := by
  refine .foldl _ _ (fun p k => ?_) p
  split
  · exact p.cancelMatch_outward k
  · exact .refl p

theorem Part.cancelOnLeaving_outward (old : Sync) (p : Part) : p.Outward (p.cancelOnLeaving old) := by
  cases old
  · exact .refl p
  · exact .refl p
  · exact p.cancelKind_outward _
  · exact p.cancelKind_outward _

theorem Part.ceaseSync_outward (new : Sync) (p : Part) : p.Outward (p.ceaseSync new) := by
  cases new
  · exact (p.cease_outward _ _).trans (Part.cease_outward _ _ _)
  · exact .refl p
  · exact p.cease_outward _ _
  · exact p.cease_outward _ _

theorem Part.leaveCycle_still (p : Part) : p.Still p.leaveCycle :=
  ((p.dropPhasers_outward.toStill.trans (Part.dropSelectors_outward _).toStill).trans (Part.clearPasses_still _)).trans
    (Part.Still.withExamineOwed _ 0)

theorem Part.changeSync_still (new : Sync) (p : Part) : p.Still (p.changeSync new) := by
  have h1 : p.Still ((Part.cancelOnLeaving p.angle.sync { p with angle.sync := new }).ceaseSync new) :=
    (Part.Still.withAngle p { p.angle with sync := new }).trans
      ((Part.cancelOnLeaving_outward _ _).trans (Part.ceaseSync_outward _ _)).toStill
  have h2 : ∀ q : Part, p.Still q → p.Still (if p.angle.sync = .cycleLocked then q.leaveCycle else q) := by
    intro q hq
    split
    · exact hq.trans q.leaveCycle_still
    · exact hq
  have h3 : ∀ q : Part, p.Still q → p.Still (if p.angle.sync = .stopped then q.abortProbe else q) := by
    intro q hq
    split
    · exact hq.trans q.abortProbe_outward.toStill
    · exact hq
  have h4 : ∀ q : Part, p.Still q → p.Still ((q.setCause .sync).writeAngle) := fun q hq =>
    hq.trans ((q.setCause_outward _).trans (Part.handOver_outward _ _ _)).toStill
  unfold Part.changeSync
  dsimp only
  split
  · exact .refl p
  · split
    · exact (h4 _ (h3 _ (h2 _ h1))).trans (Part.enterCycle_still _)
    · exact h4 _ (h3 _ (h2 _ h1))

theorem Part.loseCycle_still (p : Part) : p.Still p.loseCycle :=
  ((Part.Still.withAngle p _).trans (Part.changeSync_still _ _)).trans (Part.requestMark_still _)

theorem Part.markAnomaly_still (p : Part) : p.Still p.markAnomaly := by
  have h1 := Part.Still.withAngle p { p.angle with anomalyCount := min (p.angle.anomalyCount + 1) 2 }
  unfold Part.markAnomaly
  dsimp only
  split
  · exact (h1.trans (Part.raise_outward _ _ _ _ _).toStill).trans (Part.loseCycle_still _)
  · exact h1

theorem Part.markCheckCrank_still (p : Part) : p.Still p.markCheckCrank := by
  have h1 := Part.Still.withAngle p { p.angle with missCount := min (p.angle.missCount + 1) 8 }
  unfold Part.markCheckCrank
  dsimp only
  split
  · exact Part.Still.withAngle p _
  · split
    · exact (h1.trans (Part.raise_outward _ _ _ _ _).toStill).trans (Part.Still.withAngle _ _)
    · exact h1

theorem Part.markCheck_still (p : Part) : p.Still p.markCheck := by
  unfold Part.markCheck
  split
  · exact p.markCheckCrank_still
  · split
    · exact Part.Still.withAngle p _
    · exact p.markAnomaly_still
  all_goals exact .refl p

theorem Part.markCandidate_still (p : Part) : p.Still p.markCandidate := by
  unfold Part.markCandidate
  split
  · split
    · exact .refl p
    · exact Part.Still.withAngle p { p.angle with markSeen := true, markedA := true }
  · split
    · exact Part.Still.withAngle p { p.angle with markSeen := true, markInRev := true, anomalyCount := 0 }
    · exact p.markAnomaly_still
  all_goals exact .refl p

theorem Part.markEdge_still (t : Tick) (p : Part) : p.Still (p.markEdge t) := by
  unfold Part.markEdge
  dsimp only
  split
  · exact p.markCandidate_still
  · exact .refl p

theorem Part.gainCycle_still (p : Part) : p.Still p.gainCycle :=
  ((Part.Still.withAngle p { p.angle with rev := .b, a0 := 3600, anomalyCount := 0 }).trans
    (Part.changeSync_still _ _)).trans (Part.requestMark_still _)

theorem Part.doStall_still (p : Part) : p.Still p.doStall := by
  unfold Part.doStall
  dsimp only
  split
  · exact ((p.raise_outward _ _ _ _).toStill.trans (Part.Still.withAngle _ _)).trans (Part.changeSync_still _ _)
  · exact (Part.Still.withAngle p _).trans (Part.changeSync_still _ _)

theorem Part.loseCrank_still (detail : Nat) (candidate : Option Nat) (p : Part) : p.Still (p.loseCrank detail candidate) :=
  ((p.raise_outward _ _ _ _).toStill.trans (Part.Still.withAngle _ _)).trans (Part.changeSync_still _ _)

/-! ## Matches (R16, R18, R19) -/

/-- A match of any slot but the adoption slot is still. -/
theorem Part.handMatch_still (k : Fin 24) (late : Bool) (p : Part) (hk : k ≠ 22) :
    p.Still (p.handMatch k late) := by
  have h22 : k.val ≠ 22 := fun h => hk (Fin.ext h)
  unfold Part.handMatch
  simp only [h22, if_false]
  split
  · exact p.windowCheck_still _ _
  · split
    · split
      · exact p.planMatch_still _ _
      · exact p.actionMatch_still _ _
      · exact p.closeMatch_still _
    · exact (p.requestMark_still).trans (Part.markCheck_still _)

theorem Part.fire_still (k : Fin 24) (late : Bool) (p : Part) (hk : k ≠ 22) : p.Still (p.fire k late) :=
  (p.cancelMatch_outward k).toStill.trans (Part.handMatch_still k late _ hk)

theorem Part.expire_still (k : Fin 24) (p : Part) (hk : k ≠ 22) : p.Still (p.expire k) := by
  unfold Part.expire
  split
  · exact (Part.Still.withClock p _).trans (Part.fire_still k false _ hk)
  all_goals exact .refl p

theorem Part.stallExpiry_still (p : Part) : p.Still p.stallExpiry := by
  unfold Part.stallExpiry
  split
  · exact (Part.Still.withClock p _).trans (Part.doStall_still _)
  · exact .refl p

end Sys2Proof.Machine
end

