-- ==== Sys2Proof/Laws/Drive.lean ====
section
/-! SUPPORT. The events of the output stage are outward (R107 to R119); what the discharge of R120 and the withdrawal
of its request do. -/

namespace Sys2Proof.Machine

/-- A channel stored as it is measured, without a change that writes a record. -/
theorem Part.Outward.withChannels (p : Part) (v : Vector Channel 6) : p.Outward { p with channels := v } :=
  .units p p.cams v p.stage p.latched p.present p.xu rfl ⟨[], by simp⟩

/-- A new set of stage items. -/
theorem Part.Outward.withStage (p : Part) (g : Stage) : p.Outward { p with stage := g } :=
  .units p p.cams p.channels g p.latched p.present p.xu rfl ⟨[], by simp⟩

theorem Part.endOpenLoad_outward (n : Fin 6) (p : Part) : p.Outward (p.endOpenLoad n) :=
  (p.putChannel_outward n _).trans (Part.cease_outward _ _ _)

theorem Part.judgeLoad_outward (n : Fin 6) (threshold which : Nat) (p : Part) :
    p.Outward (p.judgeLoad n threshold which) := by
  unfold Part.judgeLoad
  dsimp only
  split
  · generalize (if decide ((vget p.channels n).measured < threshold) = true then min ((vget p.channels n).openCount + 1) 3
      else 0) = count
    split
    · exact (p.putChannel_outward n _).trans (Part.raise_outward _ _ _ _ _)
    · exact .withChannels p _
  · split
    · exact .withChannels p _
    · split
      · exact .withChannels p _
      · exact p.endOpenLoad_outward n

theorem Part.periodStart_outward (n : Fin 6) (p : Part) : p.Outward (p.periodStart n) := by
  unfold Part.periodStart
  dsimp only
  split
  · exact p.startPeriod_outward n _
  · exact .refl p

theorem Part.onTimeEnd_outward (n : Fin 6) (mean : Int) (p : Part) : p.Outward (p.onTimeEnd n mean) := by
  unfold Part.onTimeEnd
  dsimp only
  split
  · split
    · exact .withChannels p _
    · exact (Part.Outward.withChannels p _).trans (Part.judgeLoad_outward _ _ _ _)
  · exact .refl p

theorem Part.currentCheck_outward (n : Fin 6) (mean : Int) (p : Part) : p.Outward (p.currentCheck n mean) := by
  unfold Part.currentCheck
  dsimp only
  split
  · split
    · exact .withChannels p _
    · exact (Part.Outward.withChannels p _).trans (Part.judgeLoad_outward _ _ _ _)
  · exact (Part.Outward.withChannels p _).trans (Part.judgeLoad_outward _ _ _ _)
  all_goals exact .refl p

theorem Part.peakEnd_outward (n : Fin 6) (p : Part) : p.Outward (p.peakEnd n) := by
  unfold Part.peakEnd
  dsimp only
  split
  · exact p.putChannel_outward n _
  · exact .refl p

theorem Part.dipSample_outward (j : Fin 2) (sample : Int) (p : Part) : p.Outward (p.dipSample j sample) := by
  unfold Part.dipSample
  dsimp only
  split
  · split
    · exact (Part.Outward.withChannels p _).trans (Part.dipReport_outward _ _)
    · exact .withChannels p _
  · exact .refl p

theorem Part.overCurrent_outward (n : Fin 6) (current : Nat) (p : Part) : p.Outward (p.overCurrent n current) := by
  unfold Part.overCurrent
  dsimp only
  split
  · split
    · exact ((p.putChannel_outward n _).trans (Part.cease_outward _ _ _)).trans (Part.raise_outward _ _ _ _ _)
    · exact (p.putChannel_outward n _).trans (Part.raise_outward _ _ _ _ _)
  · exact .refl p

theorem Part.probeOpen_outward (n : Fin 6) (p : Part) : p.Outward (p.probeOpen n) := by
  unfold Part.probeOpen
  dsimp only
  split
  · exact (p.putChannel_outward n _).trans (Part.raise_outward _ _ _ _ _)
  · exact p.putChannel_outward n _

theorem Part.probeOk_outward (n : Fin 6) (p : Part) : p.Outward (p.probeOk n) := by
  unfold Part.probeOk
  dsimp only
  split
  · exact p.putChannel_outward n _
  · exact (p.putChannel_outward n _).trans (Part.endOpenLoad_outward _ _)

theorem Part.leaveProbe_outward (n : Fin 6) (p : Part) : p.Outward (p.leaveProbe n) := by
  unfold Part.leaveProbe
  dsimp only
  split
  · exact (p.putChannel_outward _ _).trans (Part.applyRequest_outward _ _)
  · exact .refl p

theorem Part.probeEnd_outward (carried : Bool) (p : Part) : p.Outward (p.probeEnd carried) := by
  unfold Part.probeEnd
  split
  · exact .refl p
  · refine .trans ?_ (Part.probeNext_outward _)
    refine .trans ?_ (Part.leaveProbe_outward _ _)
    split
    · exact p.probeOk_outward _
    · exact p.probeOpen_outward _

theorem Part.judgeWarning_outward (temp : Int) (p : Part) : p.Outward (p.judgeWarning temp) := by
  unfold Part.judgeWarning
  split
  · exact (p.putStage_outward _).trans (Part.raise_outward _ _ _ _ _)
  · split
    · exact (p.putStage_outward _).trans (Part.cease_outward _ _ _)
    · exact .refl p

theorem Part.judgeShutdown_outward (temp : Int) (p : Part) : p.Outward (p.judgeShutdown temp) := by
  unfold Part.judgeShutdown
  dsimp only
  split
  · refine .trans ?_ (Part.raise_outward _ _ _ _ _)
    refine .trans ?_ (Part.cancelShift_outward 1 _)
    refine .trans ?_ (Part.cancelShift_outward 0 _)
    refine .trans ?_ (Part.dropSelectors_outward _)
    refine .trans ?_ (Part.dropPhasers_outward _)
    refine .trans ?_ (Part.abortProbe_outward _)
    exact (p.putStage_outward _).trans (Part.allOff_outward _)
  · split
    · exact ((p.putStage_outward _).trans (Part.cease_outward _ _ _)).trans (Part.applyAll_outward _)
    · exact .refl p

theorem Part.temperatureSample_outward (temp : Int) (p : Part) : p.Outward (p.temperatureSample temp) :=
  ((Part.Outward.withStage p _).trans (Part.judgeWarning_outward _ _)).trans (Part.judgeShutdown_outward _ _)

theorem Part.startDischarge_outward (p : Part) : p.Outward p.startDischarge :=
  ((p.putStage_outward _).trans (Part.allOff_outward _)).trans (Part.abortProbe_outward _)

theorem Part.withdrawDischarge_outward (p : Part) : p.Outward p.withdrawDischarge :=
  (p.putStage_outward _).trans (Part.applyAll_outward _)

/-- An event acts on the units of a part at work. -/
theorem State.event_awake (f : Mem → Part → Part) (s : State) (h : s.part.awake = true) :
    s.event f = { s with part := f s.mem s.part } := by simp [State.event, h]

/-- An event passes by a part that is not at work. -/
theorem State.event_asleep (f : Mem → Part → Part) (s : State) (h : s.part.awake = false) : s.event f = s := by
  simp [State.event, h]

end Sys2Proof.Machine
end

