-- ==== Sys2Proof/Laws/Memory.lean ====
section
/-! SUPPORT. The laws of the exchange memory: a word reads as last stored, other words keep their value, and every store
keeps the canonical form (R134). -/

namespace Sys2Proof.Machine

/-- Canonical from a bound is canonical from any lower bound. -/
theorem Mem.wfFrom_le {lo hi : Nat} (m : Mem) (h : lo ≤ hi) (hm : Mem.wfFrom hi m = true) : Mem.wfFrom lo m = true := by
  cases m with
  | nil => rfl
  | cons e m =>
    obtain ⟨b, w⟩ := e
    simp [Mem.wfFrom] at hm ⊢
    exact ⟨⟨by omega, hm.1.2⟩, hm.2⟩

/-- Below the bound of a canonical memory every word reads 0. -/
theorem Mem.read_below {lo a : Nat} (m : Mem) (hm : Mem.wfFrom lo m = true) (ha : a < lo) : m.read a = 0 := by
  induction m generalizing lo with
  | nil => rfl
  | cons e m ih =>
    obtain ⟨b, w⟩ := e
    simp [Mem.wfFrom] at hm
    have hne : a ≠ b := by omega
    simp [Mem.read, hne, ih hm.2 (Nat.lt_succ_of_le (by omega))]

/-- What a store makes each word read, in a canonical memory. -/
theorem Mem.read_write {lo : Nat} (m : Mem) (hm : Mem.wfFrom lo m = true) (a b : Nat) (v : Word) :
    (m.write a v).read b = if b = a then v else m.read b := by
  induction m generalizing lo with
  | nil =>
    by_cases hv : v = 0#16
    · subst hv; simp [Mem.write, Mem.read]
    · simp [Mem.write, Mem.read, hv]
  | cons e m ih =>
    obtain ⟨c, w⟩ := e
    simp [Mem.wfFrom] at hm
    have ih := ih hm.2
    by_cases h1 : a < c
    · by_cases hv : v = 0#16
      · by_cases hb : b = a
        · subst hb; subst hv
          have : b ≠ c := by omega
          simp [Mem.write, Mem.read, h1, this, Mem.read_below (lo := c + 1) (a := b) m hm.2 (by omega)]
        · simp [Mem.write, h1, hv, hb]
      · simp [Mem.write, Mem.read, h1, hv]
    · by_cases h2 : a = c
      · subst h2
        by_cases hv : v = 0#16
        · by_cases hb : b = a
          · subst hb; subst hv
            simp [Mem.write, Mem.read_below (lo := b + 1) (a := b) m hm.2 (by omega)]
          · simp [Mem.write, Mem.read, hv, hb]
        · by_cases hb : b = a
          · simp [Mem.write, Mem.read, hv, hb]
          · simp [Mem.write, Mem.read, hv, hb]
      · by_cases hb : b = c
        · have : b ≠ a := by omega
          simp [Mem.write, Mem.read, h1, h2, hb]
          intro h; omega
        · simp [Mem.write, Mem.read, h1, h2, hb, ih]

/-- A store keeps the canonical form. -/
theorem Mem.wfFrom_write {lo : Nat} (m : Mem) (a : Nat) (v : Word) (hm : Mem.wfFrom lo m = true) (ha : lo ≤ a) :
    Mem.wfFrom lo (m.write a v) = true := by
  induction m generalizing lo with
  | nil => by_cases hv : v = 0#16 <;> simp [Mem.write, Mem.wfFrom, hv, ha]
  | cons e m ih =>
    obtain ⟨c, w⟩ := e
    simp [Mem.wfFrom] at hm
    by_cases h1 : a < c
    · by_cases hv : v = 0#16
      · simp [Mem.write, Mem.wfFrom, h1, hv, hm]
      · simp [Mem.write, Mem.wfFrom, h1, hv, hm, ha, Nat.succ_le_of_lt h1]
    · by_cases h2 : a = c
      · by_cases hv : v = 0#16
        · simp [Mem.write, h2, hv]
          exact Mem.wfFrom_le m (by omega) hm.2
        · subst h2; simp [Mem.write, Mem.wfFrom, hv, hm]
      · have := ih (lo := c + 1) hm.2 (by omega)
        simp [Mem.write, Mem.wfFrom, h1, h2, hm, this]

/-- A store keeps the canonical form of the whole memory. -/
theorem Mem.wf_write (m : Mem) (a : Nat) (v : Word) (hm : m.wf = true) : (m.write a v).wf = true :=
  Mem.wfFrom_write m a v hm (Nat.zero_le a)

/-- A stored word reads back. -/
theorem Mem.read_write_same (m : Mem) (hm : m.wf = true) (a : Nat) (v : Word) : (m.write a v).read a = v := by
  simp [Mem.read_write m hm]

/-- A store leaves every other word. -/
theorem Mem.read_write_other (m : Mem) (hm : m.wf = true) (a b : Nat) (v : Word) (h : b ≠ a) :
    (m.write a v).read b = m.read b := by
  simp [Mem.read_write m hm, h]

/-- A run of stores keeps the canonical form. -/
theorem Mem.wf_writeRun (m : Mem) (a : Nat) (ws : List Word) (hm : m.wf = true) : (m.writeRun a ws).wf = true := by
  induction ws generalizing m a with
  | nil => exact hm
  | cons w ws ih => exact ih _ _ (Mem.wf_write m a w hm)

/-- Two parts of a memory, one below the other, are canonical together. -/
theorem Mem.wfFrom_append {lo hi : Nat} (m n : Mem) (hm : Mem.wfFrom lo m = true) (hn : Mem.wfFrom hi n = true)
    (hlo : lo ≤ hi) (hb : ∀ e ∈ m, e.1 < hi) : Mem.wfFrom lo (m ++ n) = true := by
  induction m generalizing lo with
  | nil => exact Mem.wfFrom_le n hlo hn
  | cons e m ih =>
    obtain ⟨b, w⟩ := e
    simp [Mem.wfFrom] at hm ⊢
    have hb1 : b < hi := hb (b, w) (by simp)
    exact ⟨hm.1, ih hm.2 (by omega) fun e he => hb e (by simp [he])⟩

/-- What two parts of a memory, one below the other, read together. -/
theorem Mem.read_append {lo hi a : Nat} (m n : Mem) (hm : Mem.wfFrom lo m = true) (hn : Mem.wfFrom hi n = true)
    (hb : ∀ e ∈ m, e.1 < hi) : (m ++ n : Mem).read a = if a < hi then m.read a else n.read a := by
  induction m generalizing lo with
  | nil =>
    split
    · next h => simp [Mem.read, Mem.read_below n hn h]
    · rfl
  | cons e m ih =>
    obtain ⟨b, w⟩ := e
    simp [Mem.wfFrom] at hm
    have hb1 : b < hi := hb (b, w) (by simp)
    have ih := ih hm.2 fun e he => hb e (by simp [he])
    by_cases h : a = b
    · subst h; simp [Mem.read, hb1]
    · simp [Mem.read, h, ih]

/-- The entries of a run of words. -/
theorem Mem.ofRun_mem (a : Nat) (ws : List Word) : ∀ e ∈ Mem.ofRun a ws, a ≤ e.1 ∧ e.1 < a + ws.length := by
  induction ws generalizing a with
  | nil => simp [Mem.ofRun]
  | cons w ws ih =>
    intro e he
    by_cases hw : w = 0#16
    · simp [Mem.ofRun, hw] at he
      have := ih _ _ he
      simp; omega
    · simp [Mem.ofRun, hw] at he
      rcases he with rfl | he
      · simp
      · have := ih _ _ he
        simp; omega

/-- The entries of a run of words are canonical. -/
theorem Mem.ofRun_wf (a : Nat) (ws : List Word) : Mem.wfFrom a (Mem.ofRun a ws) = true := by
  induction ws generalizing a with
  | nil => rfl
  | cons w ws ih =>
    by_cases hw : w = 0#16
    · simp [Mem.ofRun, hw]
      exact Mem.wfFrom_le _ (Nat.le_succ a) (ih (a + 1))
    · simp [Mem.ofRun, hw, Mem.wfFrom, ih]

/-- What a run of words reads. -/
theorem Mem.ofRun_read (a b : Nat) (ws : List Word) (h : a ≤ b) : (Mem.ofRun a ws).read b = ws.getD (b - a) 0 := by
  induction ws generalizing a with
  | nil => simp [Mem.ofRun, Mem.read]
  | cons w ws ih =>
    by_cases hb : b = a
    · subst hb
      by_cases hw : w = 0#16
      · simp [Mem.ofRun, hw, Mem.read_below _ (Mem.ofRun_wf (b + 1) ws) (Nat.lt_succ_self b)]
      · simp [Mem.ofRun, hw, Mem.read]
    · have hba : b - a = (b - (a + 1)) + 1 := by omega
      by_cases hw : w = 0#16
      · simp [Mem.ofRun, hw, ih (a + 1) (by omega), hba]
      · simp [Mem.ofRun, hw, Mem.read, hb, ih (a + 1) (by omega), hba]

/-- The scratch words of a canonical memory are canonical. -/
theorem Mem.scratch_wf {lo : Nat} (m : Mem) (hm : Mem.wfFrom lo m = true) : Mem.wfFrom 0xB00 m.scratch = true := by
  have key : ∀ (m : Mem) (lo hi : Nat), Mem.wfFrom lo m = true → hi ≤ max lo 0xB00 → Mem.wfFrom hi m.scratch = true := by
    intro m
    induction m with
    | nil => intros; rfl
    | cons e m ih =>
      obtain ⟨b, w⟩ := e
      intro lo hi hm hh
      simp [Mem.wfFrom] at hm
      by_cases hb : 0xB00 ≤ b ∧ b < 0xB40
      · have := ih (b + 1) (b + 1) hm.2 (by omega)
        have he : Mem.scratch ((b, w) :: m) = (b, w) :: Mem.scratch m := by simp [Mem.scratch, hb]
        simp [he, Mem.wfFrom, hm, this]
        omega
      · have := ih (b + 1) hi hm.2 (by omega)
        have he : Mem.scratch ((b, w) :: m) = Mem.scratch m := by simp [Mem.scratch, hb]
        rw [he]; exact this
  exact key m lo 0xB00 hm (by omega)

/-- What the scratch words read. -/
theorem Mem.scratch_read (m : Mem) (a : Nat) (ha : 0xB00 ≤ a ∧ a < 0xB40) : m.scratch.read a = m.read a := by
  induction m with
  | nil => rfl
  | cons e m ih =>
    obtain ⟨b, w⟩ := e
    by_cases hb : 0xB00 ≤ b ∧ b < 0xB40
    · have he : Mem.scratch ((b, w) :: m) = (b, w) :: Mem.scratch m := by simp [Mem.scratch, hb]
      rw [he]; simp [Mem.read, ih]
    · have he : Mem.scratch ((b, w) :: m) = Mem.scratch m := by simp [Mem.scratch, hb]
      have hne : a ≠ b := by omega
      rw [he, ih]; simp [Mem.read, hne]

end Sys2Proof.Machine
end

