-- ==== Sys2Proof/Laws/Pages.lean ====
section
/-! SUPPORT. The verdict on a page: the lowest failing offset, overlapping arcs, and what a refused page leaves. -/

namespace Sys2Proof.Machine

/-! ## The lowest failing offset (R138) -/

@[simp] theorem lowestFailure_eq_none {os : List Nat} : lowestFailure os = none ↔ os = [] := by
  cases os with
  | nil => simp [lowestFailure]
  | cons o os => simp only [lowestFailure]; split <;> simp

theorem lowestFailure_eq_some {os : List Nat} {l : Nat} :
    lowestFailure os = some l ↔ l ∈ os ∧ ∀ y ∈ os, l ≤ y := by
  induction os generalizing l with
  | nil => simp [lowestFailure]
  | cons o os ih =>
    simp only [lowestFailure]
    split
    · rename_i h
      simp only [lowestFailure_eq_none] at h
      subst h
      simp only [Option.some.injEq, List.mem_singleton, forall_eq]
      exact ⟨fun h => ⟨h.symm, by omega⟩, fun h => h.1.symm⟩
    · rename_i m h
      obtain ⟨hm, hle⟩ := ih.1 h
      simp only [Option.some.injEq, List.mem_cons, forall_eq_or_imp]
      constructor
      · rintro rfl
        refine ⟨?_, by omega, fun y hy => Nat.le_trans (Nat.min_le_right _ _) (hle y hy)⟩
        rcases Nat.le_total o m with h' | h'
        · exact .inl (Nat.min_eq_left h')
        · exact .inr (by rwa [Nat.min_eq_right h'])
      · rintro ⟨rfl | hl, ho, hall⟩
        · exact Nat.min_eq_left (hall m hm)
        · have := hle l hl; have := hall m hm; omega

/-! ## Arcs (R141) -/

/-- Two arcs shorter than their circle meet exactly when some angle lies in both. -/
theorem arcsMeet_iff {m o1 l1 o2 l2 : Nat} (h1 : o1 < m) (h2 : o2 < m) :
    arcsMeet m o1 l1 o2 l2 = true ↔ ∃ z, z < m ∧ forwardIn m o1 z ≤ l1 ∧ forwardIn m o2 z ≤ l2 := by
  have self : ∀ o, o < m → forwardIn m o o = 0 := fun o h => by
    simp only [forwardIn, Nat.mod_eq_of_lt h]
    rw [show o + (m - o) = m by omega, Nat.mod_self]
  have cases_ : ∀ o z, o < m → z < m → forwardIn m o z = if o ≤ z then z - o else z + m - o := fun o z ho hz => by
    simp only [forwardIn, Nat.mod_eq_of_lt ho]
    split
    · rw [show z + (m - o) = (z - o) + m by omega, Nat.add_mod_right, Nat.mod_eq_of_lt (by omega)]
    · rw [show z + (m - o) = z + m - o by omega, Nat.mod_eq_of_lt (by omega)]
  simp only [arcsMeet, decide_eq_true_eq]
  constructor
  · rintro (h | h)
    · exact ⟨o2, h2, h, by rw [self o2 h2]; omega⟩
    · exact ⟨o1, h1, by rw [self o1 h1]; omega, h⟩
  · rintro ⟨z, hz, ha, hb⟩
    rw [cases_ o1 z h1 hz] at ha
    rw [cases_ o2 z h2 hz] at hb
    rw [cases_ o1 o2 h1 h2, cases_ o2 o1 h2 h1]
    split at ha <;> split at hb <;> split <;> split <;> omega

/-! ## A refused page (R138) -/

/-- The answer to a page that is not taken: the verdict and its record, and nothing else. -/
theorem Part.answerOffer_of_refused {m : Mem} {o : Offer} {p : Part} {v : Verdict} {d : Word}
    (h : p.judgePage (pageOf m o.page) = (v, d)) (hv : v.takes = false) : p.answerOffer m o = p.answer o.seq v d := by
  simp [Part.answerOffer, h, hv]

/-- An answer changes the verdict, the offer, the records and the causes alone. -/
theorem Part.answer_eq (seq : BitVec 15) (v : Verdict) (d : Word) (p : Part) :
    p.answer seq v d = { p with
      xu.verdict := v, xu.verdictDetail := d, xu.adoptedSeq := seq, xu.offer := none,
      xu.records := (p.answer seq v d).xu.records, xu.attn := (p.answer seq v d).xu.attn } := rfl

@[simp] theorem Part.answer_records_length (seq : BitVec 15) (v : Verdict) (d : Word) (p : Part) :
    (p.answer seq v d).xu.records.length = p.xu.records.length + 1 := by
  simp [Part.answer, Part.setCause, Part.writeVerdict, Part.handOver]

end Sys2Proof.Machine
end

