-- ==== Sys2Proof/Laws/Port.lean ====
section
/-! SUPPORT. What the completion of a record, the resets that keep the retained region and the entry into RETAINED do
(R145, R149, R150, R154, R155). -/

namespace Sys2Proof.Machine

/-! ## Records -/

@[simp] theorem Record.release_kind (r : Record) : r.release.kind = r.kind := by unfold Record.release; split <;> rfl
@[simp] theorem Record.release_done (r : Record) : r.release.done = r.done := by unfold Record.release; split <;> rfl
@[simp] theorem Record.release_words (r : Record) : r.release.words = r.words := by unfold Record.release; split <;> rfl

/-- Only a snapshot's record is marked released. -/
theorem Record.release_released (r : Record) : r.release.released = (r.released || decide (r.kind = .snapshot)) := by
  unfold Record.release; split <;> simp [*]

/-- A snapshot is under way exactly when a record of one waits. -/
theorem Part.snapshotUnderWay_iff (p : Part) :
    p.snapshotUnderWay = true ↔ ∃ r ∈ p.xu.records, r.kind = .snapshot := by
  simp [Part.snapshotUnderWay]

/-! ## The examination of the offer and the completion of a record -/

/-- The examination after a journal record: an adoption point when its match is still owed one, else nothing. -/
theorem Part.examineOffer_cases (m : Mem) (p : Part) :
    (p.xu.records.countP (fun r => r.kind.isJournal) < p.xu.examineOwed ∧
      p.examineOffer m = { p with xu.examineOwed := p.xu.examineOwed - 1 }.adoptionPoint m) ∨
    (p.xu.examineOwed ≤ p.xu.records.countP (fun r => r.kind.isJournal) ∧ p.examineOffer m = p) := by
  unfold Part.examineOffer
  split
  · next h => exact .inl ⟨h, rfl⟩
  · next h => exact .inr ⟨Nat.le_of_not_lt h, rfl⟩

@[simp] theorem State.complete_pending (r : Record) (s : State) : (s.complete r).pending = s.pending := by
  unfold State.complete; split <;> rfl

@[simp] theorem State.complete_readData (r : Record) (s : State) : (s.complete r).readData = s.readData := by
  unfold State.complete; split <;> rfl

@[simp] theorem State.complete_held (r : Record) (s : State) : (s.complete r).held = s.held := by
  unfold State.complete; split <;> rfl

/-- The completion of a record keeps the canonical form. -/
theorem State.complete_wf (r : Record) (s : State) (h : s.mem.wf = true) : (s.complete r).mem.wf = true := by
  unfold State.complete
  split
  · exact Mem.wf_write _ _ _ h
  · exact h
  · exact Mem.wf_write _ _ _ h
  · exact h

/-- A host store keeps the canonical form. -/
theorem State.hostStore_wf (a : Nat) (v : Word) (s : State) (h : s.mem.wf = true) : (s.hostStore a v).mem.wf = true :=
  Mem.wf_write _ _ _ h

@[simp] theorem HeldAccess.addr_read (a : Addr) : (HeldAccess.read a).addr = a := rfl
@[simp] theorem HeldAccess.addr_write (a : Addr) (v : Word) : (HeldAccess.write a v).addr = a := rfl
@[simp] theorem State.finishAccess_read (a : Addr) (s : State) :
    s.finishAccess (.read a) = { s with readData := some (s.mem.read a.toNat) } := rfl
@[simp] theorem State.finishAccess_write (a : Addr) (v : Word) (s : State) :
    s.finishAccess (.write a v) = s.decideWrite a.toNat v := rfl

/-- The access a record held takes effect, or stays held. -/
theorem State.releaseHeld_cases (r : Record) (s : State) :
    (∃ h, s.held = some h ∧ r.kind.covers h.addr.toNat = true ∧
      s.releaseHeld r = { s with held := none }.finishAccess h) ∨
    ((∀ h, s.held = some h → r.kind.covers h.addr.toNat = false) ∧ s.releaseHeld r = s) := by
  unfold State.releaseHeld
  cases hs : s.held with
  | none => exact .inr ⟨fun _ h => (by cases h), rfl⟩
  | some h =>
    cases hc : r.kind.covers h.addr.toNat with
    | true => exact .inl ⟨h, rfl, hc, by simp [hc]⟩
    | false => exact .inr ⟨fun _ h' => (by cases h'; exact hc), by simp [hc]⟩

/-! ## The canonical form through the port and the records -/

theorem State.writeOffer_wf (v : Word) (s : State) (h : s.mem.wf = true) : (s.writeOffer v).mem.wf = true := by
  unfold State.writeOffer
  split
  · exact h
  · dsimp only
    split <;> exact s.hostStore_wf _ _ h

theorem State.writeNoteState_wf (m : Fin 16) (v : Word) (s : State) (h : s.mem.wf = true) :
    (s.writeNoteState m v).mem.wf = true := by
  unfold State.writeNoteState
  split
  · exact h
  · dsimp only
    split
    · exact s.hostStore_wf _ _ h
    · exact h

theorem State.writeSnapshot_wf (v : Word) (s : State) (h : s.mem.wf = true) : (s.writeSnapshot v).mem.wf = true := by
  unfold State.writeSnapshot
  dsimp only
  repeat' split
  all_goals first | exact h | exact s.hostStore_wf _ _ h

theorem State.writeLearned_wf (off : Nat) (v : Word) (s : State) (h : s.mem.wf = true) :
    (s.writeLearned off v).mem.wf = true := by
  unfold State.writeLearned
  dsimp only
  repeat' split
  all_goals first | exact h | exact State.hostStore_wf _ _ _ h

/-- The decision on a host write keeps the canonical form. -/
theorem State.decideWrite_wf (a : Nat) (v : Word) (s : State) (h : s.mem.wf = true) :
    (s.decideWrite a v).mem.wf = true := by
  unfold State.decideWrite
  split
  · exact h
  split
  · exact s.writeOffer_wf v h
  split
  · exact s.writeSnapshot_wf v h
  split
  · exact s.writeNoteState_wf _ v h
  split
  · exact s.writeLearned_wf _ v h
  split
  · exact s.hostStore_wf a v h
  · exact h

/-- The end of a held access keeps the canonical form. -/
theorem State.finishAccess_wf (h : HeldAccess) (s : State) (hs : s.mem.wf = true) :
    (s.finishAccess h).mem.wf = true := by
  cases h with
  | read a => exact hs
  | write a v => exact s.decideWrite_wf _ v hs

/-- A host read changes nothing but the held access and the word returned, and is held exactly on an open port at a
word of the record being written (R150, R152). -/
theorem State.portRead_cases (a : Addr) (s : State) :
    (s.part.portOpen = true ∧ a.toNat < 0xFF8 ∧ s.part.inWriting a.toNat = true ∧
      s.portRead a = { s with held := some (.read a), readData := none }) ∨
    (∃ h v, s.portRead a = { s with held := h, readData := some v }) := by
  unfold State.portRead
  split
  · exact .inr ⟨s.held, 0, rfl⟩
  next ho =>
    split
    · exact .inr ⟨none, _, rfl⟩
    next hr =>
      split
      · next hw => exact .inl ⟨by simpa using ho, by omega, hw, rfl⟩
      · exact .inr ⟨none, _, rfl⟩

/-- A host write access keeps the canonical form. -/
theorem State.portWrite_wf (a : Nat) (v : Word) (s : State) (h : s.mem.wf = true) : (s.portWrite a v).mem.wf = true := by
  unfold State.portWrite
  split
  · exact h
  split
  · exact h
  split
  · exact h
  · exact State.decideWrite_wf a v _ h

/-- The writing of a record's word keeps the canonical form. -/
theorem State.writeRecordWord_wf (s : State) (h : s.mem.wf = true) : s.writeRecordWord.mem.wf = true := by
  unfold State.writeRecordWord
  split
  · exact h
  · next r rs _ =>
    dsimp only
    have hm : (if r.done < r.kind.len then s.mem.write (r.kind.base + r.done) (r.words.getD r.done 0) else s.mem).wf
        = true := by
      split
      · exact Mem.wf_write _ _ _ h
      · exact h
    split
    · exact hm
    · rcases State.releaseHeld_cases r (State.complete r _) with ⟨_, _, _, e⟩ | ⟨_, e⟩
      · rw [e]; exact State.finishAccess_wf _ _ (State.complete_wf r _ hm)
      · rw [e]; exact State.complete_wf r _ hm

/-! ## Resets that keep the retained region -/

@[simp] theorem State.resetKeeping_pending (cause : WakeCause) (line : Bool) (s : State) :
    (s.resetKeeping cause line).pending = s.pending := rfl
@[simp] theorem State.resetKeeping_held (cause : WakeCause) (line : Bool) (s : State) :
    (s.resetKeeping cause line).held = none := rfl
@[simp] theorem State.resetKeeping_readData (cause : WakeCause) (line : Bool) (s : State) :
    (s.resetKeeping cause line).readData = none := rfl
@[simp] theorem State.resetKeeping_part (cause : WakeCause) (line : Bool) (s : State) :
    (s.resetKeeping cause line).part =
      Part.afterReset s.part.refTable s.part.holdTable s.part.power.waketime cause line := rfl

/-- The words of a row of entries of two words each. -/
theorem length_flatMap_two {α : Type} (f : α → List Word) (hf : ∀ x, (f x).length = 2) (l : List α) :
    (l.flatMap f).length = 2 * l.length := by
  induction l with
  | nil => rfl
  | cons x l ih => rw [List.flatMap_cons, List.length_append, hf, ih, List.length_cons]; omega

/-- The learned words are canonical and lie below the scratch area. -/
theorem Part.learnedMem_wf (p : Part) :
    Mem.wfFrom 0xA00 p.learnedMem = true ∧ ∀ e ∈ p.learnedMem, e.1 < 0xB00 := by
  have refs := Mem.ofRun_mem 0xA00 (p.refTable.toList.flatMap RefEntry.words)
  have holds := Mem.ofRun_mem 0xA40 (p.holdTable.toList.flatMap HoldEntry.words)
  rw [length_flatMap_two RefEntry.words (fun _ => rfl), Vector.length_toList] at refs
  rw [length_flatMap_two HoldEntry.words (fun _ => rfl), Vector.length_toList] at holds
  refine ⟨Mem.wfFrom_append _ _ (Mem.ofRun_wf _ _) (Mem.ofRun_wf _ _) (by decide) fun e he =>
    Nat.lt_of_lt_of_le (refs e he).2 (by decide), ?_⟩
  intro e he
  rcases List.mem_append.mp he with h | h
  · exact Nat.lt_of_lt_of_le (refs e h).2 (by decide)
  · exact Nat.lt_of_lt_of_le (holds e h).2 (by decide)

/-- The words of a reset are canonical and lie below the learned tables. -/
theorem resetWords_wf : Mem.wfFrom 0 resetWords = true ∧ ∀ e ∈ resetWords, e.1 < 0xA00 := by decide

/-- A reset that keeps the retained region gives the canonical form. -/
theorem State.resetKeeping_wf (cause : WakeCause) (line : Bool) (s : State) (h : s.mem.wf = true) :
    (s.resetKeeping cause line).mem.wf = true := by
  have learned := s.part.learnedMem_wf
  have low := Mem.wfFrom_append _ _ resetWords_wf.1 learned.1 (by decide) resetWords_wf.2
  refine Mem.wfFrom_append _ _ low (Mem.scratch_wf s.mem h) (by decide) fun e he => ?_
  rcases List.mem_append.mp he with h | h
  · exact Nat.lt_trans (resetWords_wf.2 e h) (by decide)
  · exact learned.2 e h

/-! ## The entry into RETAINED -/

@[simp] theorem State.retain_mem (s : State) :
    s.retain.mem = (s.resetKeeping s.part.power.wakeCause s.part.power.resetLine).mem := rfl
@[simp] theorem State.retain_held (s : State) : s.retain.held = none := rfl
@[simp] theorem State.retain_readData (s : State) : s.retain.readData = none := rfl
@[simp] theorem State.retain_pending (s : State) : s.retain.pending = s.pending := rfl
@[simp] theorem State.retain_refTable (s : State) : s.retain.part.refTable = s.part.refTable := rfl
@[simp] theorem State.retain_holdTable (s : State) : s.retain.part.holdTable = s.part.holdTable := rfl
@[simp] theorem State.retain_waketime (s : State) : s.retain.part.power.waketime = s.part.power.waketime := rfl
@[simp] theorem State.retain_wakeCause (s : State) : s.retain.part.power.wakeCause = s.part.power.wakeCause := rfl
@[simp] theorem State.retain_state (s : State) : s.retain.part.power.state = .retained := rfl

@[simp] theorem State.retain_awake (s : State) : s.retain.part.awake = false := rfl

/-- A discharge check ends the entry in RETAINED, or changes nothing. -/
theorem State.dischargeCheck_cases (currents : Vector Nat 6) (s : State) :
    (s.part.power.state = .entering ∧ s.part.stage.discharge = true ∧ discharged currents = true ∧
      s.dischargeCheck currents = s.retain) ∨ s.dischargeCheck currents = s := by
  unfold State.dischargeCheck
  split
  · next h => exact .inl ⟨h.2.1, h.2.2.1, h.2.2.2, rfl⟩
  · exact .inr rfl

end Sys2Proof.Machine
end

