-- ==== Sys2Proof/WellFormed.lean ====
section
/-! DEFINITION. Which command terms are instances of their rows. The meanings are total all the same: an ill-formed
write is decided as the port decides any write. -/

namespace Sys2Proof

/-- The checks: the offer's sequence is not 0 (that write is WITHDRAW_OFFER); an exchange-memory write is not a
register write; a REGISTER_WRITE is to a register without a row of its own; a stage sample lies in the sensor's range
(Table 6-2); the comparator sees at most 3,500 mA (R114). -/
def Instr.wellFormed : Instr → Bool
  | .powerOnReset | .resetLine | .crankEdge _ | .stall | .camEdge _ _ | .matchExpiry _ | .standbyTick _ => true
  | .pwmPeriodStart _ | .onTimeEnd _ _ | .peakTimerExpiry _ | .selectorCurrentCheck _ _ | .dipSample _ _ => true
  | .overCurrent _ current => decide (current ≤ 3500)
  | .stageTemperatureSample temp => decide (-40 ≤ temp ∧ temp ≤ 200)
  | .probeJudgement _ | .driverStatusRefresh | .dischargeCheck _ | .wakeLine | .wakeTimerExpiry => true
  | .recordWordWrite | .accessAbandoned | .learnedTableWrite _ _ | .withdrawOffer _ | .noteFree _ => true
  | .exchangeMemoryWrite addr _ => decide (addr.toNat < 0xFF8)
  | .offer _ seq => decide (seq ≠ 0)
  | .snapshotRequest | .snapshotRelease | .retainRequest _ | .haltLearnWrite _ | .protectedWriteClear _ => true
  | .attnClear _ | .attnenWrite _ | .resetLineDeasserted => true
  | .registerWrite reg value =>
    decide (reg = 0 ∨ reg = 5 ∨ reg = 6 ∨ reg = 7 ∨ (reg = 2 ∧ value.getLsbD 2 = false))

end Sys2Proof
end

