-- ==== Sys2Proof/Tests/Slice0.lean ====
section
/-! SUPPORT. Tests: the well-formedness checks, the manual's worked examples, one step each, and a witness for every
statement that has hypotheses: a state and operands that meet them together. -/

open Sys2Proof Sys2Proof.Machine

namespace Sys2Proof.Tests

/-! ## The example calibration and small states -/

/-- RI of the manual's examples (Tables 2-3, 3-3 and 4-5). -/
def phaser : PhaserCfg :=
  { direction := .advancing, stroke := 400, nominal := #v[1180, 2980, 4780, 6580], kp := 96, ki := 8, ilim := 200,
    dmin := 150, dmax := 850, pnom := 300, holdMin := 300, holdMax := 700, holdDefault := 480, unlockDuty := 700,
    parkDuty := 100, unlockEdges := 24, returnEdges := 48, slew := 40, trackLimit := 80, trackCount := 16 }

/-- FE of the manual's examples (Table 2-3): RETARDING. -/
def exhaust : PhaserCfg :=
  { phaser with direction := .retarding, stroke := 300, nominal := #v[500, 2300, 4100, 5900] }

/-- FS of the manual's examples (Table 5-6). -/
def selector : SelectorCfg :=
  { iwOpen := 4100, iwClose := 6000, ewOpen := 3300, ewClose := 5300, planAngle := 1500, tResp := 3000, tMove := 1200,
    margin := 100, maxSpeed := 14500, settleTol := 20, dipThreshold := 150, deferLimit := 16, peakCurrent := 1600,
    holdCurrent := 500 }

/-- The example calibration as the active configuration. -/
def calibration : Configuration :=
  { Configuration.unconfigured with
    window := some { mo := 2600, mc := 2680 }, phasers := #v[phaser, exhaust, phaser, exhaust],
    selectors := #v[selector, selector], holdPressure := 60, enableSpeed := 600, enableHyst := 50 }

/-- A configured part after reset with no record waiting. -/
def quiet : Part := { State.reset.part with config := some calibration, xu.records := [] }

/-- Tooth 7 of revolution A at 9,000 rpm (Table 1-6). -/
def running : Part :=
  { quiet with angle := { quiet.angle with
      sync := .cycleLocked, tooth := 7, rev := .a, t0 := 0, a0 := 1050, pp := 2222, span := 150, last := some 0,
      prev := some 2222, stall := some 2400000, speed := 9000, window := some { mo := 2600, mc := 2680 } } }

/-- A machine with a part and the identity words alone in memory. -/
def on (p : Part) : State := { mem := [(0x000, 0x4B), (0x001, 0x01)], held := none, readData := none, part := p, pending := [] }

/-- The machine with a word of memory more. -/
def put (a : Nat) (w : Word) (s : State) : State := { s with mem := s.mem.write a w }

/-- The state after a command. -/
def after (c : Instr) (s : State) : State :=
  match exec c s with
  | .next t => t
  | .fault _ => s
  | .refused _ => s

/-- The part after a command. -/
def partAfter (c : Instr) (p : Part) : Part := (after c (on p)).part

/-- The part with another context of phaser i. -/
def withPhaser (i : Fin 4) (c : PhaserCtx) (p : Part) : Part := { p with phasers := vset p.phasers i c }

/-- The part with another context of selector 0. -/
def withSelector (c : SelectorCtx) (p : Part) : Part := { p with selectors := vset p.selectors 0 c }

/-- The part with another channel. -/
def withChannel (n : Fin 6) (c : Channel) (p : Part) : Part := { p with channels := vset p.channels n c }

/-- The part with another match slot. -/
def withSlot (k : Fin 24) (m : MatchSlot) (p : Part) : Part := { p with slots := vset p.slots k m }

/-- A valve channel in PWM at 505 ‰, in an on-time (Table 6-4). -/
def valve : Channel :=
  { Channel.reset (.duty 505) with mode := .pwm, level := 505, onActive := true, onTicks := 16160 }

/-- A selector output in its peak phase (Table 6-5). -/
def peaking : Channel :=
  { Channel.reset (.energise 1600 500 150 4200) with mode := .peak, level := 1600, runMax := 1610 }

/-- A tracking context. -/
def tracking : PhaserCtx := { PhaserCtx.reset with state := .tracking, ta := 300, tr := 300, phase := 300 }

/-! ## Well-formed commands -/

theorem test_offer_needs_a_sequence : (Instr.offer 0 0).wellFormed = false := by decide

theorem test_memory_write_below_the_registers : (Instr.exchangeMemoryWrite 0xFF8 0).wellFormed = false := by decide

theorem test_register_write_needs_its_row :
    (Instr.registerWrite 1 0).wellFormed = false ∧ (Instr.registerWrite 3 0).wellFormed = false ∧
    (Instr.registerWrite 4 0).wellFormed = false ∧ (Instr.registerWrite 2 4).wellFormed = false := by decide

theorem test_stage_sample_in_range :
    (Instr.stageTemperatureSample 201).wellFormed = false ∧ (Instr.stageTemperatureSample (-41)).wellFormed = false := by
  decide

theorem test_comparator_range : (Instr.overCurrent 0 3501).wellFormed = false := by decide

theorem test_well_formed_commands :
    (Instr.offer 1 3).wellFormed = true ∧ (Instr.exchangeMemoryWrite 0xFF7 1).wellFormed = true ∧
    (Instr.registerWrite 6 5).wellFormed = true ∧ (Instr.stageTemperatureSample 200).wellFormed = true ∧
    (Instr.overCurrent 5 3500).wellFormed = true := by decide

/-- The table gives no row bits. -/
theorem test_no_word_spells_a_command : decodeTableWord 16 0 = none ∧ State.reset.withFetchWord 16 0 = State.reset := by
  decide

/-! ## Figures of the manual's tables -/

/-- Table 1-3. -/
theorem test_speed_figures :
    [1584000, 369231, 53333, 33103, 23500].map (fun r => min (roundHalfUp Config.ticksPerMinute r) 20000) =
      [303, 1300, 9000, 14500, 20000] := by decide

/-- Table 1-6. -/
theorem test_angle_clock :
    ([0, 1037, 1925, 1926, 2222, 2600] : List Tick).map running.angle.clockOffset = [0, 70, 129, 130, 149, 149] := by
  decide

/-- Table 2-4: RI's capture window, widened window and check angle of edge 0 at L = −6. -/
theorem test_windows_of_an_edge :
    phaser.captures 1174 724 = true ∧ phaser.captures 1174 723 = false ∧ phaser.captures 1174 1224 = true ∧
    phaser.captures 1174 1225 = false ∧ phaser.wideOpen 0 = 690 ∧ phaser.wideOpen 0 + phaser.wideLength = 1270 ∧
    phaser.checkAngle 0 = 1271 ∧ exhaust.wideOpen 0 = 410 ∧ exhaust.checkAngle 0 = 891 := by decide

/-- Table 2-5. -/
theorem test_phase_figures :
    phaser.phaseOf 1174 1120 = 54 ∧ phaser.phaseOf 1174 1200 = -26 ∧ phaser.phaseOf 1174 774 = 400 ∧
    exhaust.phaseOf 500 650 = 150 ∧ exhaust.phaseOf 500 452 = -48 := by decide

/-- Table 4-3, at Pnom = 300. -/
theorem test_pressure_factors :
    [0, 100, 150, 240, 300, 450, 500, 600, 1000].map (fun x => { quiet with xu.oilPressure := x }.pressureFactor 300) =
      [128, 128, 128, 80, 64, 43, 38, 32, 32] := by decide

/-- RI at 62 °C and 240 kPa with 480 in its bands. -/
def warm : Part :=
  { quiet with xu.oilTemp := 62, xu.oilPressure := 240, holdTable := Vector.replicate 32 { value := 480, count := 40 } }

/-- The duty and the integrator of a computation of RI. -/
def control (p : Part) (tr : Nat) (phase integ : Int) : Nat × Int :=
  let c := p.compute 2 { PhaserCtx.reset with state := .tracking, tr := tr, phase := phase, integ := integ }
  (c.duty, c.integ)

/-- Tables 4-6, 4-7, 4-8 and 4-9: an ordinary update, a rounding tie, and the two at the upper limit. -/
theorem test_control_tables :
    control warm 300 260 1024 = (505, 1344) ∧ control warm 300 355 472 = (454, 32) ∧
    control { warm with xu.oilPressure := 300, holdTable := Vector.replicate 32 { value := 800, count := 0 } } 400 200
      2240 = (850, 2240) ∧
    control { warm with xu.oilPressure := 300, holdTable := Vector.replicate 32 { value := 800, count := 0 } } 400 410
      16000 = (850, 15920) := by decide

/-- Table 4-11, step 1: the entry, its count and the give-back. -/
theorem test_learning_step :
    let o := warm.learn 2 4
      { tracking with err := 0, duty := 505, hold := 480, integ := 5120, band := 4, settle := 7, factor := 80 }
    o.entry = some { value := 483, count := 41 } ∧ o.ctx.integ = 4506 ∧ o.ctx.settle = 0 := by decide

/-- Section 4.7.8: a step against the limit. -/
theorem test_learning_clamp :
    let p := { warm with xu.oilTemp := 90, xu.oilPressure := 300 }
    let o := p.learn 2 5
      { tracking with err := 0, duty := 730, hold := 698, integ := 2048, band := 5, settle := 7, factor := 64 }
    o.entry.map HoldEntry.value = some 700 ∧ o.limited = true ∧ o.ctx.integ = 1536 := by decide

/-- Table 2-8, cycles 1 and 2. -/
theorem test_reference_samples :
    let p := { quiet with refTable := vset quiet.refTable 8 { offset := -6, count := 40 } }
    let q := p.learnReference 2 0 1171
    vget q.refTable 8 = { offset := -6, count := 41 } ∧
    vget (q.learnReference 2 0 1166).refTable 8 = { offset := -7, count := 42 } := by decide

/-- Table 5-7: the effective window, Lr and Lm at 9,000 rpm, and section 11.3: Lr at 14,000 rpm. -/
theorem test_plan_figures :
    let p := (withPhaser 0 tracking running |> withPhaser 1 { tracking with phase := 150 })
    p.planFigures 0 = { wo := 3800, wc := 5450, length := 1650, lr := 1620, lm := 648 } := by decide

/-- Table 3-4: the ramp at a slew of 40. -/
theorem test_ramp :
    (rampStep 40 { tracking with ta := 300, tr := 180 }).tr = 220 ∧
    (rampStep 40 { tracking with ta := 200, tr := 260 }).tr = 220 ∧
    (rampStep 40 { tracking with ta := 200, tr := 220 }).tr = 200 := by decide

/-! ## Commands of the engine -/

/-- Table 1-5, e5: the gap candidate. -/
theorem test_crank_edge_finds_the_gap :
    (partAfter (.crankEdge 264000)
      { quiet with angle := { quiet.angle with sync := .seeking, last := some 66000, prev := some 66000 } }).angle.candidate
      = some 198000 := by decide

/-- Table 11-5 at 2550: 2,222 ≥ 2 × 889 at tooth index 17. -/
theorem test_crank_edge_early_gap :
    let p := partAfter (.crankEdge 2222)
      { running with angle := { running.angle with tooth := 17, prev := some 889, last := some 0 } }
    p.angle.sync = .seeking ∧ p.isPresent .syncLoss 12 = true ∧ p.angle.candidate = some 2222 := by decide +kernel

/-- R10: a stall of a locked unit leaves SYNC_LOSS latched and not present. -/
theorem test_stall :
    let p := partAfter .stall running
    p.angle.sync = .stopped ∧ p.angle.speed = 0 ∧ p.isLatched .syncLoss 12 = true ∧ p.isPresent .syncLoss 12 = false ∧
    p.clock = 2400000 := by decide +kernel

/-- The pass of RI's edge 0 in Table 2-5. -/
def passing : Part :=
  { running with passes := vset running.passes 8 { ref := 1174, seen := false, inside := false, live := true } }

/-- Tables 2-2 and 2-5: an edge 1,037 ticks past tooth 7 is at 1120, where RI's phase is 54. -/
theorem test_cam_edge_measures :
    let p := partAfter (.camEdge 2 1037) passing
    (vget p.phasers 2).phase = 54 ∧ (vget p.passes 8).seen = true := by decide +kernel

/-- Table 2-2: 2,215 ticks past tooth 7 the edge is STRETCHED, and delivers no measurement. -/
theorem test_cam_edge_stretched :
    let p := partAfter (.camEdge 2 2215)
      { passing with passes := vset passing.passes 8 { ref := 1200, seen := false, inside := false, live := true } }
    (vget p.phasers 2).stretched = true ∧ (vget p.phasers 2).phase = 0 ∧ (vget p.passes 8).seen = true := by
  decide +kernel

/-- Table 5-7: the plan match at 1500 arms FS for 2180. -/
theorem test_match_expiry_plans :
    let p := (withPhaser 0 tracking running |> withPhaser 1 { tracking with phase := 150 } |>
      withSelector { SelectorCtx.reset with requested := .high } |> withSlot 16 (.armed 1500 .cycle 100))
    let c := vget (partAfter (.matchExpiry 16) p).selectors 0
    c.state = .armedUp ∧ c.wo = 3800 ∧ c.wc = 5450 ∧ c.action = 2180 := by decide +kernel

/-- Table 2-6, the window 0 check: the fourth anomaly raises PHASE_IMPLAUSIBLE. -/
theorem test_match_expiry_counts_a_miss :
    let p := partAfter (.matchExpiry 8) (withSlot 8 (.armed 1271 .cycle 100)
      { running with cams := vset running.cams 2 { CamPhaser.reset with anomaly := 3, misses := 1, strays := 2 } })
    (vget p.cams 2).misses = 2 ∧ p.isLatched .phaseImplausible 2 = true := by decide +kernel

/-- Table 11-1: 22 °C and 240 kPa come into force at the standby tick. -/
theorem test_standby_tick_takes_conditions :
    let p := (after (.standbyTick 80000) (put 0x008 22 (on quiet) |> put 0x009 240 |> put 0x00A 1)).part
    p.xu.oilTemp = 22 ∧ p.xu.oilPressure = 240 ∧ p.xu.seqSeen = 1 := by decide +kernel

/-- Table 11-1: a targets page offered as sequence 2 is adopted at the tick; here its first enable word is 1. -/
theorem test_standby_tick_adopts_targets :
    let s := put 0x200 2 (put 0x204 1 (put 0x205 150 (on quiet)))
    let p := (after (.standbyTick 80000) (after (.offer 1 2) s)).part
    p.xu.adoptedSeq = 2 ∧ p.xu.verdict = .adopted ∧ vget p.demand 0 = { enable := true, target := 150, freeze := false } := by
  decide +kernel

/-! ## Commands of the output stage -/

/-- Table 6-4: 505 ‰ at 250 Hz is 16,160 ticks. -/
theorem test_pwm_period : (vget (partAfter (.pwmPeriodStart 0)
    (withChannel 0 { valve with onActive := false, onTicks := 0 } quiet)).channels 0).onTicks = 16160 := by decide

/-- Table 11-4: the third low period raises OPEN_LOAD on unit 8. -/
theorem test_on_time_end_open_load :
    let p := partAfter (.onTimeEnd 2 11) (withChannel 2 { valve with openCount := 2 } quiet)
    p.isLatched .openLoad 8 = true ∧ p.isPresent .openLoad 8 = true ∧ p.flt = true := by decide +kernel

/-- R114: 2,501 mA in an on-time trips the output and faults the phaser. -/
theorem test_over_current :
    let p := partAfter (.overCurrent 0 2501) (withChannel 0 valve (withPhaser 0 { tracking with duty := 505 } running))
    (vget p.channels 0).mode = .off ∧ (vget p.channels 0).tripped = true ∧ (vget p.phasers 0).state = .faulted := by
  decide +kernel

/-- R114: 1,600 + 400 mA is the limit in PEAK. -/
theorem test_over_current_limit : partAfter (.overCurrent 4 2000) (withChannel 4 peaking quiet) = withChannel 4 peaking quiet := by
  decide +kernel

/-- Table 6-5 at 4,200 µs. -/
theorem test_peak_timer :
    let c := vget (partAfter (.peakTimerExpiry 0) (withChannel 4 peaking quiet)).channels 4
    c.mode = .hold ∧ c.level = 500 := by decide +kernel

/-- R110: the first check after entry into PEAK is not judged. -/
theorem test_first_current_check :
    let c := vget (partAfter (.selectorCurrentCheck 0 3) (withChannel 4 { peaking with firstCheck := true } quiet)).channels 4
    c.measured = 3 ∧ c.openCount = 0 ∧ c.firstCheck = false := by decide

/-- Table 6-5 at 3,550 and 3,600 µs. -/
theorem test_dip_samples :
    let shifting := withChannel 4 peaking (withSelector { SelectorCtx.reset with state := .shiftingUp } quiet)
    (vget (partAfter (.dipSample 0 1470) shifting).selectors 0).dipSeen = false ∧
    (vget (partAfter (.dipSample 0 1455) shifting).selectors 0).dipSeen = true := by decide +kernel

/-- OUT4 in PROBE with OUT5 still to come (Table 6-6). -/
def probing : Part :=
  { quiet with
    stage.probe := some 4,
    channels := #v[Channel.reset (.duty 0), Channel.reset (.duty 0), Channel.reset (.duty 0), Channel.reset (.duty 0),
      { Channel.reset .release with mode := .probe, level := 2, probeResult := .pending },
      { Channel.reset .release with probeResult := .pending }] }

/-- Table 6-6 at 40 ms. -/
theorem test_probe_open :
    let p := partAfter (.probeJudgement false) probing
    (vget p.channels 4).probeResult = .opened ∧ (vget p.channels 5).mode = .probe ∧ p.stage.probe = some 5 ∧
    p.isLatched .openLoad 10 = true := by decide +kernel

/-- R116: the first driver record at the end of a probe shows the output in PROBE with its result. -/
theorem test_probe_result_before_off :
    let r := (partAfter (.probeJudgement false) probing).xu.records.head?
    r.map (fun r => (r.words.getD 16 0, r.words.getD 19 0)) = some (4, 0x32) := by decide +kernel

/-- R119: shutdown at 170 °C. -/
theorem test_stage_shutdown :
    let p := partAfter (.stageTemperatureSample 170) (withChannel 0 valve quiet)
    p.stage.shutdown = true ∧ (vget p.channels 0).mode = .off ∧ p.isPresent .driverShutdown 13 = true := by
  decide +kernel

/-- R121: the refresh hands the record over. -/
theorem test_driver_refresh : (partAfter .driverStatusRefresh quiet).xu.records.map Record.kind = [.driver] := by decide

/-- R120: 9 mA on every output ends an entry; 10 mA on one does not. -/
theorem test_discharge :
    let p := { quiet with power.state := .entering, stage.discharge := true, power.waketime := 50 }
    (partAfter (.dischargeCheck #v[9, 9, 9, 9, 9, 9]) p).power.state = .retained ∧
    (partAfter (.dischargeCheck #v[9, 9, 9, 9, 9, 9]) p).power.wakeTimer = some 50 ∧
    (partAfter (.dischargeCheck #v[9, 9, 10, 9, 9, 9]) p).power.state = .entering := by decide

/-- R155: the entry into RETAINED deasserts ATTN and FLT. -/
theorem test_retained_lines :
    let p := { quiet with power.state := .entering, stage.discharge := true, xu.attn := 2, xu.attnen := 2,
                          latched := vset quiet.latched 8 1 }
    p.attnLine = true ∧ p.flt = true ∧ (partAfter (.dischargeCheck #v[9, 9, 9, 9, 9, 9]) p).attnLine = false ∧
    (partAfter (.dischargeCheck #v[9, 9, 9, 9, 9, 9]) p).flt = false := by decide +kernel

/-! ## Resets and power -/

/-- R154: the power-on reset reads 0x4B01 from IDENT and 0x0020 from PORTSTAT. -/
theorem test_power_on : partAfter .powerOnReset running = State.reset.part ∧ State.reset.part.register 0 = 0x4B01 ∧
    State.reset.part.register 2 = 0x0020 := by decide +kernel

/-- R135: the RESET line keeps a learned hold value and closes the port. -/
theorem test_reset_line :
    let s := after .resetLine (on { running with holdTable := vset running.holdTable 0 { value := 481, count := 9 } })
    s.mem.read 0xA40 = 481 ∧ s.part.angle.sync = .stopped ∧ s.part.config = none ∧ s.part.portOpen = false ∧
    (after .resetLineDeasserted s).part.portOpen = true := by decide +kernel

/-- R156: the WAKE line wakes a RETAINED part with cause 3, the timer with cause 4. -/
theorem test_wake :
    let p := { quiet with power.state := .retained, power.wakeTimer := some 1 }
    (partAfter .wakeLine p).power.wakeCause.code = 3 ∧ (partAfter .wakeTimerExpiry p).power.wakeCause.code = 4 ∧
    (partAfter (.crankEdge 5) p).power.wakeCause.code = 2 ∧ (partAfter (.crankEdge 5) p).angle.sync = .stopped := by
  decide +kernel

/-! ## Host writes and records -/

/-- R150: the last word of a note sets NOTE, and the write it held completes. -/
theorem test_record_word_write :
    let r : Record := { kind := .note 0, done := 15, words := List.replicate 16 7, released := false }
    let s := after .recordWordWrite { on { quiet with xu.records := [r] } with held := some (.write 0x408 1) }
    s.mem.read 0x40F = 7 ∧ s.part.xu.attn = 1 ∧ s.held = none ∧ s.part.xu.protectedWrite = true := by decide

/-- R150: a held read completes on the complete record, also when another record of the same words follows. -/
theorem test_held_read :
    let r (w : Word) : Record := { kind := .note 0, done := 15, words := List.replicate 16 w, released := false }
    let s := (on { quiet with xu.records := [r 7, r 9] }).portRead 0x40F
    let t := after .recordWordWrite s
    s.held = some (.read 0x40F) ∧ s.wait = true ∧ s.readData = none ∧
    t.held = none ∧ t.readData = some 7 ∧ t.part.xu.records.length = 1 := by decide

/-- R145: the last word of the journal record comes before the answer to the offer. -/
theorem test_journal_then_offer :
    let r : Record := { kind := .journal 3, done := 31, words := List.replicate 32 7, released := false }
    let p := { quiet with xu.records := [r], xu.examineOwed := 1, xu.offer := some { page := 1, seq := 3, prompt := false } }
    let s := after .recordWordWrite (on p)
    s.mem.read 0x00E = 3 ∧ s.part.xu.verdict = .refusedKind ∧ s.part.xu.adoptedSeq = 3 ∧ s.part.xu.examineOwed = 0 := by
  decide +kernel

/-- R152: an abandoned write is not stored. -/
theorem test_access_abandoned :
    after .accessAbandoned { on quiet with held := some (.write 0x408 1) } = on quiet := by decide +kernel

/-- R134: a conditions word is stored, a status word is protected. -/
theorem test_exchange_memory_write :
    (after (.exchangeMemoryWrite 0x008 22) (on quiet)).mem.read 0x008 = 22 ∧
    (after (.exchangeMemoryWrite 0x300 22) (on quiet)).part.xu.protectedWrite = true := by decide

/-- R40, R84: an offset of −41 is stored as −40, a hold value of 900 as hold_max. -/
theorem test_learned_table_write :
    (vget (partAfter (.learnedTableWrite 0 0xFFD7) quiet).refTable 0).offset = -40 ∧
    (vget (partAfter (.learnedTableWrite 0x40 900) quiet).holdTable 0).value = 700 := by decide +kernel

/-- R136: an offer holds its page, a newer one drops it, a withdrawal ends it. -/
theorem test_offer_and_withdrawal :
    let s := after (.offer 0 1) (on quiet)
    s.part.heldPage = some 0 ∧ (after (.offer 1 2) s).part.xu.lastDropped = 1 ∧
    (after (.withdrawOffer 0) s).part.heldPage = none ∧ (after (.withdrawOffer 0) s).part.xu.lastDropped = 1 := by
  decide +kernel

/-- R147: freeing a note. -/
theorem test_note_free :
    let p := { quiet with xu.notesWithheld := true, xu.notes := vset quiet.xu.notes 3 { NoteSlot.reset with filled := true } }
    (vget (partAfter (.noteFree 3) p).xu.notes 3).filled = false ∧ (partAfter (.noteFree 3) p).xu.notesWithheld = false := by
  decide +kernel

/-- R148: PENDING on a request, FREE on a release. -/
theorem test_snapshot_control :
    (after .snapshotRequest (on quiet)).mem.read 0x00C = 1 ∧
    (after .snapshotRelease (put 0x00C 2 (on quiet))).mem.read 0x00C = 0 := by decide

/-- R149: a 0 written after the capture leaves the word PENDING, and the completed record FREE with SNAPSHOT set. -/
theorem test_snapshot_release_under_way :
    let r : Record := { kind := .snapshot, done := 202, words := List.replicate 203 7, released := false }
    let s := after .snapshotRelease (put 0x00C 1 (on { quiet with xu.records := [r] }))
    s.mem.read 0x00C = 1 ∧ (after .recordWordWrite s).mem.read 0x00C = 0 ∧
    (after .recordWordWrite s).part.xu.attn = 8 := by decide +kernel

/-- R155: a request enters ENTERING when STOPPED, and is refused with NOT_STOPPED when not. -/
theorem test_retain_request :
    (partAfter (.retainRequest false) quiet).power.state = .entering ∧
    (partAfter (.retainRequest false) running).power.state = .run ∧
    (partAfter (.retainRequest false) running).xu.attn = 0x40 := by decide +kernel

/-- Table 10-1: the register writes. -/
theorem test_register_writes :
    (partAfter (.haltLearnWrite true) quiet).portctl = 2 ∧
    (partAfter (.protectedWriteClear 0) { quiet with xu.protectedWrite := true }).xu.protectedWrite = false ∧
    (partAfter (.attnClear 0x0F) { quiet with xu.attn := 0x33 }).xu.attn = 0x30 ∧
    (partAfter (.attnenWrite 0x21) quiet).xu.attnen = 0x21 ∧ (partAfter (.registerWrite 6 300) quiet).power.waketime = 300 ∧
    (partAfter (.registerWrite 7 1) quiet).xu.protectedWrite = true := by decide

/-! ## Witnesses: states and operands that meet a statement's hypotheses together -/

/-- A part at work on its way into RETAINED. -/
def entering : Part := { quiet with power.state := .entering, stage.discharge := true }

/-- A retained part. -/
def retained : Part := { quiet with power.state := .retained, power.wakeTimer := some 1 }

/-- A part with a record of a kind being written. -/
def writing (k : RecordKind) (done : Nat) : Part :=
  { quiet with xu.records := [{ kind := k, done := done, words := List.replicate k.len 5, released := false }] }

/-- A part with an offer of page 1. -/
def offered : Part := { quiet with xu.offer := some { page := 1, seq := 3, prompt := false } }

/-- A machine with page 1 offered whose first word is its kind. -/
def offering (kind : Word) (p : Part) : State :=
  put 0x200 kind (on { p with xu.offer := some { page := 1, seq := 3, prompt := false } })

/-- An angle unit in SEEKING with two edges behind it. -/
def seeking (candidate : Option Nat) : Part :=
  { quiet with angle := { quiet.angle with
      sync := .seeking, last := some 0, prev := some 1000, candidate := candidate, history := [1000],
      window := some { mo := 2600, mc := 2680 } } }

/-- An angle unit locked at a tooth, the last interval 1,000 ticks. -/
def locked (sync : Sync) (tooth : Nat) : Part :=
  { running with angle := { running.angle with sync := sync, tooth := tooth, last := some 0, prev := some 1000 } }

theorem witness_AStepRunsTheCommandAtTheFront :
    { on quiet with pending := [.stall, .wakeLine] }.pending = .stall :: [.wakeLine] ∧ (on quiet).pending = [] ∧
    quiet.awake = true ∧ (on retained).pending = [] ∧ retained.awake = false := by decide

/-- A memory none of whose entries is reserved reads 0 at every reserved word. -/
theorem reserved_read_of_all {m : Mem} (h : m.all (fun c => !reserved c.1 && decide (c.1 < 0xFF8)) = true) (a : Nat)
    (ha : reserved a = true ∨ 0xFF8 ≤ a) : m.read a = 0 := by
  induction m with
  | nil => rfl
  | cons c m ih =>
    obtain ⟨b, w⟩ := c
    simp only [List.all_cons, Bool.and_eq_true, Bool.not_eq_true', decide_eq_true_eq] at h
    have hne : a ≠ b := by
      rintro rfl
      rcases ha with ha | ha
      · simp [ha] at h
      · omega
    simp only [Mem.read, hne, if_false]
    exact ih (by simpa using h.2)

/-- The machine of the witnesses for the invariants: a tracking phaser in CYCLE_LOCKED and a command that waits. -/
def invariantWitness : State :=
  { put 0x008 22 (on (withPhaser 2 tracking running)) with pending := [.exchangeMemoryWrite 0x00A 1] }

theorem witness_EveryStepKeepsTheMap : invariantWitness.MapOk ∧ ∃ t, step invariantWitness = .next t :=
  ⟨{ canonical := by decide
     reservedZero := fun a h => reserved_read_of_all (by decide) a (.inl h)
     belowRegisters := fun a h => reserved_read_of_all (by decide) a (.inr h)
     family := by decide
     revision := by decide }, _, rfl⟩

theorem witness_EveryStepKeepsTheLearnedTables :
    invariantWitness.part.TablesOk ∧ ∃ t, step invariantWitness = .next t :=
  ⟨{ offsets := by decide
     samples := by decide
     values := by decide
     counts := by decide
     bounds := fun c h => by
      have : calibration = c := Option.some.inj h
      subst this
      unfold Configuration.HoldsOk
      decide }, _, rfl⟩

theorem witness_EveryStepKeepsControlUnderCycleLock :
    invariantWitness.part.DrivenLocked ∧ (vget invariantWitness.part.phasers 2).state.driven = true ∧
    ∃ t, step invariantWitness = .next t :=
  ⟨fun _ _ => rfl, by decide, _, rfl⟩

theorem witness_AHeldPageKeepsItsWords :
    (on offered).mem.wf = true ∧ (on offered).part.heldPage = some 1 ∧
    (after (.exchangeMemoryWrite 0x2FF 9) (on offered)).part.heldPage = some 1 ∧ 255 < 256 := by decide

theorem witness_EventsActOnTheUnitsAlone : (on (withChannel 0 valve running)).part.awake = true := by decide

theorem witness_StallsAndMatchesAreStill :
    (on running).part.awake = true ∧ (21 : Fin 24) ≠ 22 ∧ (23 : Fin 24) ≠ 22 := by decide

theorem witness_ResetsKeepTheRetainedRegion :
    ((put 0xB3F 7 (on retained)).mem.wf = true ∧ retained.power.resetLine = false ∧ retained.power.state = .retained ∧
      retained.power.wakeTimer.isSome = true) ∧
    ((put 0xB3F 7 (on quiet)).mem.wf = true ∧ quiet.power.resetLine = false ∧ quiet.power.state ≠ .retained ∧
      quiet.power.state = .run) ∧
    { retained with power.wakeTimer := none }.power.wakeTimer = none := by decide

theorem witness_AWakeEventAbandonsAnEntry :
    entering.power.state = .entering ∧ entering.power.resetLine = false ∧ entering.angle.sync = .stopped ∧
    entering.angle.prev = none := by decide

theorem witness_RetentionIsEnteredOrRefused :
    (quiet.portOpen = true ∧ quiet.angle.sync = .stopped ∧ quiet.standby = true ∧ quiet.stage.probe = none) ∧
    (running.portOpen = true ∧ running.angle.sync ≠ .stopped) ∧
    ((withPhaser 2 tracking quiet).portOpen = true ∧ (withPhaser 2 tracking quiet).angle.sync = .stopped ∧
      (withPhaser 2 tracking quiet).standby = false) ∧
    (probing.portOpen = true ∧ probing.angle.sync = .stopped ∧ probing.standby = true ∧ probing.stage.probe ≠ none) ∧
    (entering.awake = true ∧ (on entering).mem.wf = true ∧ entering.power.state = .entering ∧
      entering.stage.discharge = true ∧ ∀ n, vget (#v[9, 9, 9, 9, 9, 9] : Vector Nat 6) n < 10) ∧
    (∃ n, 10 ≤ vget (#v[9, 9, 9, 9, 9, 10] : Vector Nat 6) n) ∧ (quiet.awake = true ∧ quiet.power.state = .run) := by
  decide

theorem witness_AnAccessIsIgnoredOrHeld :
    retained.power.state ≠ .run ∧ { quiet with power.resetLine := true }.power.resetLine = true ∧
    ((writing (.note 15) 0).portOpen = true ∧ (writing (.note 15) 0).xu.records.length = 1 ∧
      (0x4FF : Addr).toNat < 0xFF8 ∧ (RecordKind.note 15).covers (0x4FF : Addr).toNat = true) ∧
    ((writing (.holdEntry 31) 0).portOpen = true ∧
      (RecordKind.holdEntry 31).covers (0xA00 + (0x7F : BitVec 8).toNat) = true) ∧
    ((writing (.note 15) 0).xu.records.map Record.kind = [.note 15]) ∧
    (RecordKind.note 15).covers (0x4EF : Addr).toNat = false := by decide

theorem witness_RegisterWritesTakeTheirFields :
    (on quiet).part.portOpen = true ∧ (0xFFFB : Word).getLsbD 2 = false ∧
    ((7 : Fin 8) = 0 ∨ (7 : Fin 8) = 5 ∨ (7 : Fin 8) = 7) := by decide

theorem witness_PlainHostWritesAreStored :
    (on offered).mem.wf = true ∧ offered.portOpen = true ∧ offered.inWriting 0x008 = false ∧
    offered.inWriting 0x05D = false ∧ (0x05D : Addr).toNat < 0x060 ∧ (0x05D : Addr).toNat % 8 < 6 ∧
    ((0x1DD : Addr).toNat = pageBase 0 + 0xDD ∧ pageNamed 0xDD = true ∧ offered.heldPage ≠ some 0) ∧
    (0xB00 ≤ (0xB3F : Addr).toNat ∧ (0xB3F : Addr).toNat < 0xB40) := by decide

theorem witness_OtherHostWritesAreIgnored :
    offered.portOpen = true ∧ offered.inWriting 0x07E = false ∧ (0xFF7 : Addr).toNat < 0xFF8 ∧
    (0x300 ≤ (0x3FF : Addr).toNat ∧ (0x3FF : Addr).toNat < 0x400) ∧ (0x401 : Addr).toNat % 16 ≠ 0 ∧
    ((0x05F : Addr).toNat < 0x060 ∧ 6 ≤ (0x046 : Addr).toNat % 8 ∧ offered.inWriting 0x046 = false) ∧
    ((0x1DE : Addr).toNat = pageBase 0 + 0xDE ∧ pageNamed 0xDE = false) ∧
    ((0x200 : Addr).toNat = pageBase 1 + 0 ∧ offered.heldPage = some 1) ∧
    ((0xA00 : Addr).toNat = 0xA00 + (0 : BitVec 8).toNat ∧ running.angle.sync ≠ .stopped ∧ running.portOpen = true ∧
      running.inWriting 0xA00 = false) ∧
    ((0xA20 : Addr).toNat = 0xA00 + (0x20 : BitVec 8).toNat ∧ (0xA80 : Addr).toNat = 0xA00 + (0x80 : BitVec 8).toNat) := by
  decide

theorem witness_LearnedTableWritesAreClamped :
    ((on quiet).mem.wf = true ∧ quiet.portOpen = true ∧ quiet.standby = true ∧ quiet.angle.sync = .stopped) ∧
    (quiet.inWriting (0xA00 + (0x1E : BitVec 8).toNat) = false ∧ (0x1E : BitVec 8).toNat = 2 * (15 : Fin 16).val) ∧
    (0x1F : BitVec 8).toNat = 2 * (15 : Fin 16).val + 1 ∧
    ((0x7E : BitVec 8).toNat = 0x40 + 2 * (8 * (3 : Fin 4).val + (7 : Fin 8).val) ∧
      quiet.config = some calibration ∧ (vget calibration.phasers 3).holdMin ≤ (vget calibration.phasers 3).holdMax) ∧
    ({ quiet with config := none }.config = none ∧ 0 ≤ 1000) ∧
    (0x7F : BitVec 8).toNat = 0x41 + 2 * (8 * (3 : Fin 4).val + (7 : Fin 8).val) := by decide

theorem witness_OfferWordWritesOfferAndWithdraw :
    let s := put 0x002 0x8003 (on offered)
    s.mem.wf = true ∧ s.part.portOpen = true ∧ (0x7FFF : BitVec 15) ≠ 0 ∧
    (s.mem.read 0x002).setWidth 15 ≠ (0x7FFF : BitVec 15) ∧ (s.mem.read 0x002).setWidth 15 = (3 : BitVec 15) ∧
    (s.mem.read 0x002).setWidth 15 ≠ (0 : BitVec 15) ∧ s.part.xu.offer ≠ none ∧ quiet.xu.offer = none ∧
    ((on quiet).mem.read 0x002).setWidth 15 = (0 : BitVec 15) := by decide

theorem witness_NoteFreeFreesTheSlot :
    let p := { quiet with xu.notes := vset quiet.xu.notes 15 { NoteSlot.reset with filled := true } }
    (on p).mem.wf = true ∧ p.portOpen = true ∧ p.inWriting (0x400 + 16 * (15 : Fin 16).val) = false ∧
    (vget p.xu.notes 15).filled = true ∧ (vget p.xu.notes 14).filled = false ∧ (1 : Word) ≠ 0 := by decide

theorem witness_SnapshotControlFollowsItsWrites :
    quiet.portOpen = true ∧ (on quiet).mem.wf = true ∧ (on quiet).mem.read 0x00C = 0 ∧
    ((put 0x00C 1 (on quiet)).mem.wf = true ∧ (put 0x00C 1 (on quiet)).mem.read 0x00C = 1 ∧
      ∀ r ∈ quiet.xu.records, r.kind ≠ .snapshot) ∧
    ((writing .snapshot 9).portOpen = true ∧ ∃ r ∈ (writing .snapshot 9).xu.records, r.kind = .snapshot) ∧
    ((put 0x00C 2 (on quiet)).mem.wf = true ∧ (put 0x00C 2 (on quiet)).mem.read 0x00C = 2) ∧
    ((2 : Word) ≠ 0 ∧ (2 : Word) ≠ 1) ∧ retained.power.state = .retained ∧ retained.power.resetLine = false ∧
    retained.power.wakeTimer.isSome = true := by decide

theorem witness_RecordsAreWrittenOneWordPerTick :
    ((on quiet).mem.wf = true ∧ quiet.awake = true ∧ quiet.xu.records = []) ∧
    ((writing (.journal 31) 31).awake = true ∧ 31 + 1 = (RecordKind.journal 31).len ∧
      (on (writing (.journal 31) 31)).held = none ∧ ¬(0 < (writing (.journal 31) 31).xu.examineOwed)) ∧
    ((RecordKind.journal 31).covers (0x8FF : Addr).toNat = true ∧
      ((on (writing (.journal 31) 31)).portRead 0x8FF).held = some (.read 0x8FF) ∧
      (after (.exchangeMemoryWrite 0x8E0 5) (on (writing (.journal 31) 31))).held = some (.write 0x8E0 5)) ∧
    (0 < { writing (.journal 0) 31 with xu.examineOwed := 1 }.xu.examineOwed) ∧
    (0 + 1 < RecordKind.snapshot.len ∧ 202 + 1 = RecordKind.snapshot.len) ∧ 15 + 1 = (RecordKind.note 0).len ∧
    7 + 1 = RecordKind.angle.len ∧
    ((RecordKind.note 0).covers (0x40F : Addr).toNat = true ∧ (RecordKind.note 0).covers (0x410 : Addr).toNat = false) ∧
    ((RecordKind.extremes 3).covers (0x05D : Addr).toNat = true ∧ (0x05D : Addr).toNat % 8 < 6 ∧
      7 + 1 = (RecordKind.extremes 3).len) := by decide

/-- A note list with slot 0 FILLED for EDGE_REJECTED on the sync unit. -/
def noted : Part :=
  { quiet with xu.notes := vset quiet.xu.notes 0 { NoteSlot.reset with filled := true, kind := .edgeRejected, unit := 12, count := 255 } }

/-- A note list with every slot FILLED, each on a unit and a kind of its own. -/
def fullNotes : Vector NoteSlot 16 :=
  Vector.ofFn fun m : Fin 16 =>
    { NoteSlot.reset with filled := true, kind := if m.val = 15 then .edgeRejected else .fault .openLoad,
                          unit := ⟨m.val % 15, Nat.mod_lt _ (by decide)⟩, count := 1 }

theorem witness_NotesMergeFillOrAreWithheld :
    noted.xu.NotesOk ∧ ((vget noted.xu.notes 0).filled = true ∧ (vget noted.xu.notes 0).kind = .edgeRejected ∧
      (vget noted.xu.notes 0).unit = 12) ∧
    ((∀ m, (vget noted.xu.notes m).filled = true →
        ¬((vget noted.xu.notes m).kind = .learnLimit ∧ (vget noted.xu.notes m).unit = 0)) ∧
      (vget noted.xu.notes 1).filled = false ∧ ∀ l, l < (1 : Fin 16) → (vget noted.xu.notes l).filled = true) ∧
    ({ quiet with xu.notes := fullNotes }.xu.NotesOk ∧ (∀ m, (vget fullNotes m).filled = true) ∧
      ∀ m, (vget fullNotes m).filled = true →
        ¬((vget fullNotes m).kind = .learnLimit ∧ (vget fullNotes m).unit = 0)) :=
  ⟨⟨by decide, by decide⟩, by decide, by decide, ⟨by decide +kernel, by decide⟩, by decide, by decide⟩

theorem witness_AnEarlyCrankEdgeIsRejected :
    let p := locked .cycleLocked 3
    p.awake = true ∧ p.angle.last = some 0 ∧ p.angle.prev = some 1000 ∧ 4 * ((249 : Tick) - 0).toNat < 1000 := by decide

theorem witness_TheFirstCrankEdgeStartsSeeking :
    quiet.awake = true ∧ quiet.angle.sync = .stopped ∧ quiet.angle.rejects 5 = false := by decide

theorem witness_SeekingFindsTheGap :
    ((seeking none).awake = true ∧ (seeking none).power.state = .run ∧ (seeking none).angle.sync = .seeking ∧
      (seeking none).angle.last = some 0 ∧ (seeking none).angle.prev = some 1000 ∧
      1000 ≤ 4 * ((250 : Tick) - 0).toNat ∧ ∀ g, (seeking none).angle.candidate = some g → g < 2 * ((250 : Tick) - 0).toNat) ∧
    ((seeking (some 3000)).angle.candidate = some 3000 ∧ 2 * ((1500 : Tick) - 0).toNat ≤ 3000 ∧
      1000 ≤ 4 * ((1500 : Tick) - 0).toNat ∧ (seeking (some 3000)).angle.window = some { mo := 2600, mc := 2680 }) ∧
    { seeking none with angle := { (seeking none).angle with prev := none } }.angle.prev = none := by
  refine ⟨⟨by decide, by decide, by decide, by decide, by decide, by decide, fun g h => ?_⟩, by decide, rfl⟩
  cases h

theorem witness_AnAcceptedToothSetsTheLastToothValues :
    let p := locked .cycleLocked 20
    let q := locked .crankLocked 21
    (p.awake = true ∧ p.power.state = .run ∧ p.angle.sync = .cycleLocked ∧ p.angle.last = some 0 ∧
      p.angle.prev = some 1000 ∧ p.angle.tooth < 21 ∧ 1000 ≤ 4 * ((1999 : Tick) - 0).toNat ∧
      ((1999 : Tick) - 0).toNat < 2 * 1000) ∧
    (q.angle.sync = .crankLocked ∧ q.angle.last = some 0 ∧ q.angle.prev = some 1000 ∧ q.angle.tooth = 21 ∧
      1000 ≤ 4 * ((4500 : Tick) - 0).toNat ∧ 2 * 1000 ≤ ((4500 : Tick) - 0).toNat ∧
      2 * ((4500 : Tick) - 0).toNat ≤ 9 * 1000) := by decide

/-- Tooth 21 with a mark window in force and one that waits. -/
def ending (sync : Sync) (rev : Rev) (w : MarkWindow) (next : Option (Option MarkWindow)) (marked seen : Bool)
    (misses anomalies : Nat) : Part :=
  let p := locked sync 21
  { p with slots := Vector.replicate 24 .idle, angle := { p.angle with
      rev := rev, window := some w, newWindow := next, markedA := marked, markSeen := seen, missCount := misses,
      anomalyCount := anomalies } }

theorem witness_ToothZeroChecksTheMarkAndDecidesCycleLock :
    let plain : MarkWindow := { mo := 2600, mc := 2680 }
    let wrapped : MarkWindow := { mo := 3500, mc := 100 }
    let q (p : Part) : AngleUnit := (({ p with clock := 2000 }.recordEdge 2000).angle.toTooth 2000 2000).toSpeed
    let ready (p : Part) : Bool :=
      decide (p.awake = true ∧ p.power.state = .run ∧ p.angle.last = some 0 ∧ p.angle.prev = some 1000 ∧
        p.angle.tooth = 21 ∧ p.xu.offer = none ∧ vget p.slots 23 = .idle)
    let gain := ending .crankLocked .unknown plain none true true 0 0
    let miss := ending .crankLocked .unknown wrapped none false false 7 0
    let fresh := ending .crankLocked .unknown wrapped (some (some plain)) true true 7 1
    let taking := ending .cycleLocked .b plain (some none) false true 0 1
    let losing := ending .cycleLocked .a wrapped (some (some plain)) false false 0 1
    let anomaly := ending .cycleLocked .a wrapped none false false 0 0
    (1000 ≤ 4 * ((2000 : Tick) - 0).toNat ∧ 2 * 1000 ≤ ((2000 : Tick) - 0).toNat ∧
      2 * ((2000 : Tick) - 0).toNat ≤ 9 * 1000) ∧
    (ready gain ∧ (q gain).sync = .crankLocked ∧ (q gain).markedA = true ∧ (q gain).window = some plain ∧
      (vget gain.slots 23).kind? ≠ some .cycle) ∧
    (ready miss ∧ (q miss).markedA = false ∧ (q miss).window = some wrapped ∧ wrapped.mc < wrapped.mo ∧
      (q miss).markSeen = false ∧ 7 ≤ (q miss).missCount ∧ (q miss).noMarkRaised = false) ∧
    (ready fresh ∧ (q fresh).newWindow = some (some plain) ∧ (q fresh).markSeen = true ∧ (q fresh).markedA = true) ∧
    (ready taking ∧ (q taking).sync = .cycleLocked ∧ (q taking).rev = .a ∧ (q taking).newWindow = some none) ∧
    (ready losing ∧ (q losing).sync = .cycleLocked ∧ (q losing).rev = .b ∧ (q losing).window = some wrapped ∧
      (q losing).markSeen = false ∧ 1 ≤ (q losing).anomalyCount) ∧
    (ready anomaly ∧ (q anomaly).rev = .b ∧ (q anomaly).anomalyCount = 0) := by decide

theorem witness_AFailedIntervalLosesCrankLock :
    let p := locked .cycleLocked 20
    let q := locked .crankLocked 21
    (p.awake = true ∧ p.power.state = .run ∧ p.angle.last = some 0 ∧ p.angle.prev = some 1000 ∧ p.angle.tooth ≤ 21 ∧
      1000 ≤ 4 * ((2000 : Tick) - 0).toNat ∧ p.angle.tooth < 21 ∧ 2 * 1000 ≤ ((2000 : Tick) - 0).toNat) ∧
    (q.angle.tooth = 21 ∧ ((1999 : Tick) - 0).toNat < 2 * 1000 ∧ 9 * 1000 < 2 * ((4501 : Tick) - 0).toNat) := by decide

theorem witness_AStallStopsTheAngleUnit :
    running.awake = true ∧ running.angle.stall = some 2400000 ∧ running.angle.sync ≠ .stopped ∧
    running.angle.locked = true := by decide

/-- Tooth 17 of revolution A, after which the mark window 2600 to 2680 lies. -/
def marking (sync : Sync) (seen : Bool) (anomalies : Nat) : Part :=
  { running with angle := { running.angle with
      sync := sync, tooth := 17, a0 := 2550, markInRev := seen, markedA := seen, anomalyCount := anomalies } }

theorem witness_AMarkIsJudgedInItsRevolution :
    let inside (p : Part) : Bool :=
      inWindow 3600 2600 2680 ((p.angle.a0 + min (roundHalfUp (((741 : Tick) - p.angle.t0).toNat * 150) p.angle.pp)
        (p.angle.span - 1)) % 3600)
    ((marking .crankLocked false 0).awake = true ∧ inside (marking .crankLocked false 0) = true ∧
      (marking .crankLocked false 0).angle.markedA = false ∧ (marking .crankLocked true 0).angle.markedA = true) ∧
    (inside (marking .cycleLocked false 1) = true ∧ (marking .cycleLocked false 1).angle.sync = .cycleLocked ∧
      (marking .cycleLocked false 1).capturing 0 2600 = none ∧ (marking .cycleLocked false 1).angle.rev = .a ∧
      (marking .cycleLocked false 1).angle.markInRev = false) ∧
    ((marking .cycleLocked true 0).angle.markInRev = true ∧ (marking .cycleLocked true 1).angle.anomalyCount = 1 ∧
      (marking .cycleLocked true 1).angle.window = some { mo := 2600, mc := 2680 }) ∧
    (let checking (sync : Sync) (seen : Bool) (misses anomalies : Nat) : Part :=
       withSlot 23 (.armed 2680 .cycle 77) { running with angle := { running.angle with
         sync := sync, markSeen := seen, missCount := misses, anomalyCount := anomalies } }
     (checking .cycleLocked true 0 0).awake = true ∧
     vget (checking .crankLocked false 7 0).slots 23 = .armed 2680 .cycle 77 ∧
     (checking .crankLocked false 7 0).angle.noMarkRaised = false ∧ (checking .crankLocked false 6 0).angle.missCount < 7 ∧
     (checking .cycleLocked true 0 0).angle.locked = true ∧ (checking .cycleLocked false 0 1).angle.anomalyCount = 1 ∧
     (checking .cycleLocked false 0 0).angle.markSeen = false) := by decide

theorem witness_AMatchExpiresWhenTheClockShowsItsAngle :
    0 < running.angle.pp ∧ running.angle.place 0 1199 .cycle = .armed 1199 .cycle 2208 ∧
    running.armedAtTooth (.waiting 1051 .cycle) = .armed 1051 .cycle 15 ∧
    (7200 + 1199 - running.angle.a0 % 7200) % 7200 * running.angle.pp ≤ 150 * (2 ^ 24 - 1) := by decide

theorem witness_AToothArmsAndFiresItsMatches :
    let q := locked .cycleLocked 3
    let p (m : MatchSlot) := withSlot 17 m { q with slots := Vector.replicate 24 .idle }
    let a0 := (({ q with clock := 1999 }.recordEdge 1999).angle.toTooth 1999 1999).a0
    (∀ m ∈ [MatchSlot.waiting 749 .cycle, .waiting 750 .cycle, .waiting 600 .cycle, .armed 500 .cycle 5],
      (p m).awake = true ∧ (p m).power.state = .run ∧ (p m).angle.sync = .cycleLocked ∧ (p m).angle.last = some 0 ∧
      (p m).angle.prev = some 1000 ∧ (p m).angle.tooth < 21 ∧ (on (p m)).mem.read 0x00C ≠ 1 ∧ (p m).xu.offer = none ∧
      (∀ k, k ≠ 17 → vget (p m).slots k = .idle) ∧ vget (p m).slots 17 = m) ∧
    1000 ≤ 4 * ((1999 : Tick) - 0).toNat ∧ ((1999 : Tick) - 0).toNat < 2 * 1000 ∧
    (forward a0 749 < 150 ∧ forward a0 749 ≠ 0 ∧ 150 ≤ forward a0 750 ∧ forward a0 600 = 0) := by decide

theorem witness_PhaseIsTheWrappedDifference :
    0 < 7200 ∧ 7199 < 7200 ∧ phaser.direction = .advancing ∧ exhaust.direction = .retarding ∧
    phaser.captures 0 50 = true ∧ exhaust.captures 0 7150 = true ∧ phaser.stroke ≤ 600 := by decide

theorem witness_AStrayCountsAsAnAnomaly :
    let p := { running with cams := vset running.cams 2 { CamPhaser.reset with anomaly := 3 } }
    p.awake = true ∧ p.angle.sync = .cycleLocked ∧ p.config ≠ none ∧
    (∀ k, (vget p.passes (windowIndex 2 k)).live = true → (vget p.passes (windowIndex 2 k)).seen = false →
      (p.phaserCfg 2).captures (vget p.passes (windowIndex 2 k)).ref 1050 = false) ∧
    p.angle.inMark (1050 % 3600) = false ∧ (vget p.cams 2).anomaly = 3 := by decide

/-- `passing` with another report and confirmation run of RI. -/
def confirming (confirm : Nat) : Part :=
  { passing with cams := vset passing.cams 2 { CamPhaser.reset with confirm := confirm } }

theorem witness_AMeasuringEdgeUpdatesItsPhaser :
    let q (t : Tick) := roundHalfUp ((t - passing.angle.t0).toNat * 150) passing.angle.pp
    let angle (t : Tick) := (passing.angle.a0 + min (q t) (passing.angle.span - 1)) % 7200
    let phase (t : Tick) := (passing.phaserCfg 2).phaseOf (vget passing.passes 8).ref (angle t)
    let late := { passing with passes := vset passing.passes 8 { ref := 1200, seen := false, inside := false, live := true } }
    passing.awake = true ∧ passing.angle.sync = .cycleLocked ∧ passing.config ≠ none ∧
    (q 1852 ≤ passing.angle.span - 1 ∧ passing.capturing 2 (angle 1852) = some 0 ∧
      passing.angle.inMark (angle 1852 % 3600) = false) ∧
    (late.angle.span ≤ q 2215 ∧ 0 < late.angle.span ∧ late.capturing 2 (angle 2215) = some 0) ∧
    (vget passing.cams 2).drift ≠ 7 ∧ passing.cfg.holdPressure ≤ { passing with xu.oilPressure := 60 }.xu.oilPressure ∧
    ((vget passing.cams 2).state = .parked ∧ (vget passing.cams 2).confirmed = false ∧
      (vget passing.phasers 2).state = .parked ∧ (vget passing.phasers 2).confirmed = false) ∧
    ((phase 1852).natAbs ≤ 50 ∧ 50 < (phase 1037).natAbs ∧ passing.capturing 2 (angle 1037) = some 0) ∧
    (vget (confirming 1).cams 2).confirm = 1 ∧ (confirming 1).capturing 2 (angle 1852) = some 0 ∧
    (vget (confirming 0).cams 2).confirm = 0 := by decide

/-- RI in CYCLE_LOCKED at 9,000 rpm, 62 °C and 240 kPa, with a context and a demand. -/
def updating (c : PhaserCtx) (d : Demand) : Part :=
  withPhaser 2 c { running with demand := vset running.demand 2 d, xu.oilTemp := 62, xu.oilPressure := 240 }

/-- A demand for 300 dd. -/
def asked (freeze : Bool) : Demand := { enable := true, target := 300, freeze := freeze }

theorem witness_AnUpdateFollowsThePhasersState :
    let p := updating { PhaserCtx.reset with confirmed := true } (asked false)
    let g := p.phaserCfg 2
    (∀ c d, (updating c d).isPresent .oilLow (phaserUnit 2) = false) ∧
    (p.angle.sync = .cycleLocked ∧ p.config ≠ none ∧ (vget p.demand 2).enable = true ∧ 0 < (vget p.demand 2).target ∧
      p.cfg.enableSpeed ≤ p.angle.speed ∧ p.isPresent .conditionsStale 14 = false ∧ p.cfg.enableTemp ≤ p.xu.oilTemp ∧
      p.cfg.unlockPressure ≤ p.xu.oilPressure ∧ (vget p.phasers 2).confirmed = true ∧
      (vget p.selectors (headOf 2)).state = .low ∧ p.stage.shutdown = false) ∧
    (∀ kind, ¬(p.isLatched kind (phaserUnit 2) = true ∨ p.isLatched kind (outputUnit (phaserOutput 2)) = true)) ∧
    (vget (updating PhaserCtx.reset (asked false)).phasers 2).confirmed = false ∧
    ((updating tracking { asked false with enable := false }).demand ≠ p.demand ∧
      { p with xu.oilPressure := 59 }.xu.oilPressure < p.cfg.holdPressure ∧
      ¬(p.angle.speed + p.cfg.enableHyst < p.cfg.enableSpeed) ∧ ¬(p.xu.oilPressure < p.cfg.holdPressure)) ∧
    (0 + 1 < g.unlockEdges ∧ g.unlockEdges ≤ 23 + 1 ∧ 2 ≤ 1 + 1 ∧ (20 : Int) ≤ 20 ∧ 1 < g.trackCount) ∧
    (0 + 1 < g.returnEdges ∧ g.returnEdges ≤ 47 + 1 ∧ (5 : Int) ≤ 5) ∧
    ((vget (updating { tracking with state := .holding, held := true } (asked false)).phasers 2).held = true ∧
      (vget (updating tracking (asked true)).demand 2).freeze = true) :=
  ⟨fun _ _ => (by decide : running.isPresent .oilLow (phaserUnit 2) = false), by decide, fun k => by cases k <;> decide, by decide,
    by decide, by decide, by decide, by decide⟩

theorem witness_ATrackingUpdateJudgesTheError :
    let p (track recov : Nat) := updating { tracking with track := track, recov := recov } (asked false)
    let g := (p 15 0).phaserCfg 2
    let error (phase : Int) : Nat := ((p 15 0).compute 2 { tracking with phase := phase }).err.natAbs
    (p 15 0).cfg.holdPressure ≤ (p 15 0).xu.oilPressure ∧ (p 15 0).isPresent .oilLow (phaserUnit 2) = false ∧
    (vget (p 15 0).demand 2).enable = true ∧
    (p 15 0).cfg.enableSpeed ≤ (p 15 0).angle.speed + (p 15 0).cfg.enableHyst ∧ (vget (p 15 0).demand 2).freeze = false ∧
    (vget (p 15 0).phasers 2).state = .tracking ∧ (p 15 0).isPresent .trackingError (phaserUnit 2) = false ∧
    (((p 15 0).latch .trackingError (phaserUnit 2) true).isPresent .trackingError (phaserUnit 2) = true) ∧
    (g.trackLimit < error 219 ∧ ¬(g.trackLimit < error 220) ∧ tracking.tr = (vget (p 15 0).demand 2).target) ∧
    (g.trackCount ≤ 15 + 1 ∧ 14 + 1 < g.trackCount) ∧ (p 15 0).cfg.onTracking ≠ .force ∧
    ({ calibration with onTracking := .force, selfClearing := true }.onTracking = .force) := by decide

theorem witness_AWindowCheckClosesItsPass :
    let p := withSlot 15 (.armed 7099 .cycle 100)
      { running with cams := vset running.cams 3 { CamPhaser.reset with anomaly := 3 } }
    let q := { p with passes := vset p.passes 15 { ref := 0, seen := true, inside := false, live := true } }
    p.awake = true ∧ vget p.slots (windowSlot 3 3) = .armed 7099 .cycle 100 ∧ (vget p.passes 15).seen = false ∧
    (vget p.passes 15).inside = false ∧ (vget p.cams 3).anomaly = 3 ∧ (vget q.passes 15).seen = true ∧
    (vget { p with cams := running.cams }.cams 3).anomaly < 3 ∧
    4 ≤ (vget { p with cams := vset running.cams 3 { CamPhaser.reset with anomaly := 4 } }.cams 3).anomaly ∧
    (let r := withPhaser 3 tracking { p with config := some { calibration with onImplausible := .force } }
     vget (partAfter (.matchExpiry 15) r).phasers 3 ≠ vget r.phasers 3) := by decide +kernel

theorem witness_ThePressureFactorFollowsTheOil :
    (quiet.isPresent .conditionsStale 14 = false ∧ quiet.xu.oilPressure = 0 ∧ 0 < warm.xu.oilPressure) ∧
    (quiet.latch .conditionsStale 14 true).isPresent .conditionsStale 14 = true := by decide

theorem witness_TheControlComputationFollowsItsStages :
    (warm.phaserCfg 2).dmin ≤ (warm.phaserCfg 2).dmax ∧ warm.isPresent .conditionsStale 14 = false ∧
    tracking.integ.natAbs ≤ (warm.phaserCfg 2).ilim * 256 := by decide

theorem witness_TheEighthSettledUpdateLearns :
    let c : PhaserCtx := { tracking with err := -3, band := 4, settle := 7 }
    c.state = .tracking ∧ c.tr = c.ta ∧ c.err.natAbs ≤ 3 ∧ warm.isPresent .conditionsStale 14 = false ∧
    warm.xu.haltLearn = false ∧ c.band = 4 ∧ 7 ≤ c.settle ∧
    (warm.phaserCfg 2).holdMin ≤ (warm.phaserCfg 2).holdMax ∧ ¬({ c with err := 4 }.err.natAbs ≤ 3) := by decide

theorem witness_ReferenceLearningMovesOneEighth :
    (wrap ((1220 : Int) - vget (quiet.phaserCfg 2).nominal 0)).natAbs ≤ 40 ∧
    40 < (wrap ((1139 : Int) - vget (quiet.phaserCfg 2).nominal 0)).natAbs ∧
    (vget { quiet with cams := vset quiet.cams 2 { CamPhaser.reset with drift := 7 } }.cams 2).drift = 7 ∧
    (let learning (c : Configuration) (speed : Nat) : Bool :=
       { quiet with
         config := some c, angle.speed := speed,
         cams := vset quiet.cams 2 { CamPhaser.reset with state := .parked, confirmed := true, rest := 5 } }.learns 2
     learning calibration 1200 = true ∧ learning calibration 1199 = false ∧ learning calibration 4000 = true ∧
     learning calibration 4001 = false ∧ learning { calibration with learnMax := 4001 } 4001 = true) := by decide

theorem witness_ThePlanFiguresFollowTheHeadsPhasers :
    (forward 3800 5700 < 3600 ∧ forward 3450 5450 < 3600 ∧ meetOpen 3800 5700 3450 5450 = some 3800 ∧
      meetOpen 0 100 200 300 = none) ∧
    (let p := withPhaser 0 tracking (withPhaser 1 { tracking with state := .faulted, phase := 150 } running)
     0 < p.angle.pp ∧ (vget p.phasers 0).state = .tracking ∧ (p.phaserCfg 0).direction = .advancing ∧
     (vget p.phasers 1).state = .faulted ∧ (p.phaserCfg 1).direction = .retarding ∧
     (vget p.phasers 2).state = .parked ∧ p.headQualifies 0 false = true ∧ p.headQualifies 0 true = false ∧
     (withPhaser 0 { tracking with err := 20 } p).headQualifies 0 false = true ∧
     (withPhaser 0 { tracking with err := 21 } p).headQualifies 0 false = false) := by decide

/-- FS asked for HIGH at the plan angle, FI and FE tracking (Table 5-7). -/
def planning : Part :=
  withPhaser 0 tracking running |> withPhaser 1 { tracking with phase := 150 } |>
    withSelector { SelectorCtx.reset with requested := .high } |> withSlot 16 (.armed 1500 .cycle 100)

theorem witness_AFeasiblePlanArmsTheShift :
    let f := planning.planFigures 0
    let feasible (p : Part) (up : Bool) : Bool :=
      p.headQualifies 0 up &&
      decide (p.awake = true ∧ vget p.slots (planSlot 0) = .armed 1500 .cycle 100 ∧ p.angle.sync = .cycleLocked ∧
        p.angle.speed ≤ (p.selectorCfg 0).maxSpeed ∧ p.stage.shutdown = false ∧
        ((p.planFigures 0).lm : Int) + (p.selectorCfg 0).margin ≤ (p.planFigures 0).length ∧
        (p.planFigures 0).lr ≤ forward (p.selectorCfg 0).planAngle (p.planFigures 0).wo)
    let down (c : SelectorCtx) : Part := withSelector { c with requested := .low } planning
    (feasible planning true = true ∧ (vget planning.selectors 0).state = .low ∧
      (vget planning.selectors 0).requested = .high ∧
      angleAdd f.wo (-(f.lr : Int)) ≠ (planning.selectorCfg 0).planAngle) ∧
    (feasible (down { SelectorCtx.reset with state := .high }) false = true ∧
      feasible (down { SelectorCtx.reset with state := .armedDown, releaseOwed := true }) false = true) ∧
    (let g := { selector with planAngle := 2180 }
     let p := { planning with config := some { calibration with selectors := #v[g, g] } }
     (p.selectorCfg 0).planAngle = angleAdd (p.planFigures 0).wo (-((p.planFigures 0).lr : Int)) ∧
     (p.planFigures 0).lr ≤ forward 2180 (p.planFigures 0).wo) := by decide

theorem witness_ADeferredPlanRecordsItsReason :
    let with_ (g : SelectorCfg) : Part := { planning with config := some { calibration with selectors := #v[g, g] } }
    (planning.awake = true ∧ vget planning.slots (planSlot 0) = .armed 1500 .cycle 100 ∧
      planning.angle.sync = .cycleLocked ∧ (vget planning.selectors 0).state = .low ∧
      (vget planning.selectors 0).requested = .high) ∧
    ((with_ { selector with maxSpeed := 8999 }).selectorCfg 0).maxSpeed < planning.angle.speed ∧
    (withPhaser 1 { tracking with err := 21 } planning).headQualifies 0 true = false ∧
    (planning.headQualifies 0 true = true ∧ { planning.stage with shutdown := true }.shutdown = true) ∧
    ¬(((with_ { selector with margin := 1003 }).planFigures 0).lm + (1003 : Int) ≤
      ((with_ { selector with margin := 1003 }).planFigures 0).length) ∧
    forward 2181 ((with_ { selector with planAngle := 2181 }).planFigures 0).wo <
      ((with_ { selector with planAngle := 2181 }).planFigures 0).lr ∧
    ({ SelectorCtx.reset with deferCount := 15 }.deferCount + 1 = (planning.selectorCfg 0).deferLimit) ∧
    (let p := withSelector { SelectorCtx.reset with retry := true } planning
     (vget p.selectors 0).state = .low ∧ (vget p.selectors 0).requested = .low) := by decide

theorem witness_TheActionMatchSwitchesTheSolenoid :
    let p (c : SelectorCtx) := withSelector c (withSlot 17 (.armed 2180 .cycle 100) planning)
    let up := p { SelectorCtx.reset with state := .armedUp }
    let down := p { SelectorCtx.reset with state := .armedDown, owedPlan := true, deferCount := 15 }
    (up.awake = true ∧ vget up.slots (actionSlot 0) = .armed 2180 .cycle 100 ∧ up.angle.sync = .cycleLocked ∧
      (vget up.selectors 0).state = .armedUp ∧ up.headQualifies 0 true = true ∧
      (vget up.phasers 0).state = .tracking ∧ headOf 0 = 0) ∧
    (withPhaser 1 { tracking with err := 21 } up).headQualifies 0 true = false ∧
    ((vget down.selectors 0).state = .armedDown ∧ down.headQualifies 0 false = true ∧
      (withPhaser 1 { tracking with state := .unlocking } down).headQualifies 0 false = false ∧
      (vget down.selectors 0).owedPlan = true ∧ (vget down.selectors 0).deferCount + 1 = (down.selectorCfg 0).deferLimit) ∧
    (vget (p { SelectorCtx.reset with state := .armedDown }).selectors 0).owedPlan = false := by decide

theorem witness_TheWindowCloseJudgesTheShift :
    let p (c : SelectorCtx) := withPhaser 0 { tracking with state := .holding, held := true }
      (withSelector c (withSlot 18 (.armed 5450 .cycle 100) running))
    let up (dip retry : Bool) := p { SelectorCtx.reset with state := .shiftingUp, dipSeen := dip, retry := retry }
    let down (fault : Bool) := p { SelectorCtx.reset with state := .shiftingDown, faultOnLow := fault }
    (up true false).awake = true ∧ vget (up true false).slots (closeSlot 0) = .armed 5450 .cycle 100 ∧
    (vget (up true false).selectors 0).state = .shiftingUp ∧ (vget (up true false).selectors 0).dipSeen = true ∧
    ((vget (up false false).selectors 0).dipSeen = false ∧ (vget (up false false).selectors 0).retry = false) ∧
    ((vget (up false true).selectors 0).dipSeen = false ∧ (vget (up false true).selectors 0).retry = true) ∧
    ((vget (down true).selectors 0).state = .shiftingDown ∧ (vget (down true).selectors 0).faultOnLow = true ∧
      (vget (down false).selectors 0).faultOnLow = false) ∧
    (headOf 0 = 0 ∧ (vget (down true).phasers 0).state = .holding ∧ (vget (down true).phasers 0).freeze = false) := by
  decide

theorem witness_AStandbyTickJudgesTheConditions :
    let s := on { quiet with xu.unchangedMs := 490 }
    s.part.awake = true ∧ s.part.xu.offer = none ∧ s.mem.read 0x00C ≠ 1 ∧ s.mem.read 0x00A = s.part.xu.seqSeen ∧
    s.part.cfg.staleMs ≤ s.part.xu.unchangedMs + 10 ∧ quiet.xu.unchangedMs + 10 < quiet.cfg.staleMs ∧
    (put 0x00A 1 s).mem.read 0x00A ≠ (put 0x00A 1 s).part.xu.seqSeen := by decide

theorem witness_AnAdoptionPointAnswersTheOffer :
    let s := offering 3 quiet
    let prompt : Offer := { page := 1, seq := 3, prompt := true }
    let p := { locked .cycleLocked 3 with slots := Vector.replicate 24 .idle, xu.offer := some prompt }
    (s.part.awake = true ∧ s.part.angle.sync ≠ .cycleLocked ∧
      s.part.xu.offer = some { page := 1, seq := 3, prompt := false } ∧ s.mem.read 0x00A = s.part.xu.seqSeen ∧
      s.part.xu.unchangedMs + 10 < s.part.cfg.staleMs ∧ s.mem.read 0x00C ≠ 1) ∧
    (p.awake = true ∧ p.power.state = .run ∧ p.angle.sync = .cycleLocked ∧ p.angle.last = some 0 ∧
      p.angle.prev = some 1000 ∧ p.angle.tooth < 21 ∧ (∀ k, vget p.slots k = .idle) ∧ (on p).mem.read 0x00C ≠ 1 ∧
      p.xu.offer = some prompt ∧ 1000 ≤ 4 * ((1999 : Tick) - 0).toNat ∧ ((1999 : Tick) - 0).toNat < 2 * 1000) ∧
    (s.mem.read (pageBase 1) ≠ 1 ∧ s.mem.read (pageBase 1) ≠ 2) ∧
    ((withPhaser 2 tracking quiet).standby = false ∧ (offering 1 quiet).mem.read (pageBase 1) = 1) ∧
    ({ quiet with config := none }.config = none ∧ (offering 2 quiet).mem.read (pageBase 1) = 2) := by decide

theorem witness_ATargetsPageIsStoredWhole :
    let s := put 0x201 0x40 (put 0x204 1 (put 0x205 401 (offering 2 quiet)))
    let flags : List Nat := [0x02, 0x04, 0x06, 0x07, 0x09, 0x0A, 0x0C, 0x0D, 0x0F, 0x10, 0x11]
    (s.part.config = some calibration ∧ s.mem.read (pageBase 1) = 2) ∧
    (∀ x ∈ flags, s.mem.read (pageBase 1 + x) = 0 ∨ s.mem.read (pageBase 1 + x) = 1) ∧
    ((vget calibration.phasers 0).stroke : Int) < (s.mem.read (pageBase 1 + 5)).toInt ∧
    ((s.mem.read (pageBase 1 + 1)).getLsbD Kind.phaseImplausible.code = true ∧
      s.part.isPresent .phaseImplausible 0 = false ∧ (s.mem.read (pageBase 1 + 1)).getLsbD Kind.openLoad.code = false) ∧
    ((put 0x211 2 s).mem.read (pageBase 1 + 0x11) ≠ 0 ∧ (put 0x211 2 s).mem.read (pageBase 1 + 0x11) ≠ 1) ∧
    (let armed (state : SelectorState) (lobe : Lobe) : Part :=
       withSelector { SelectorCtx.reset with state := state, requested := lobe } running
     (vget (armed .armedUp .high).selectors 0).state = .armedUp ∧ s.mem.read (pageBase 1 + 0x10) = 0 ∧
     (vget (armed .armedDown .low).selectors 0).owedPlan = false ∧
     (vget (armed .armedDown .low).selectors 0).releaseOwed = false ∧
     (put 0x210 1 s).mem.read (pageBase 1 + 0x10) = 1) ∧
    (let t := put 0x203 0x30 s
     let answered (p : Part) : Part := p.answerOffer t.mem { page := 1, seq := 3, prompt := false }
     (t.mem.read (pageBase 1 + 3)).getLsbD 4 = true ∧ (t.mem.read (pageBase 1 + 3)).getLsbD 3 = false ∧
     (answered t.part).standby = true ∧ t.part.angle.sync = .stopped ∧ t.part.stage.shutdown = false ∧
     t.part.stage.discharge = false ∧ t.part.stage.probe = none ∧
     (∀ l, (vget t.part.channels l).probeResult ≠ .pending) ∧ (vget t.part.channels 4).tripped = false ∧
     (answered (withPhaser 2 tracking t.part)).standby = false ∧ (answered running).angle.sync ≠ .stopped ∧
     (answered probing).standby = true ∧ probing.stage.probe ≠ none) := by decide +kernel

/-- The words of a phaser's block that its structural tests need: nominal angles, Dmax, hold_max. -/
def blockWords (b : Nat) : Mem :=
  [(b + 2, 1180), (b + 3, 2980), (b + 4, 4780), (b + 5, 6580), (b + 10, 850), (b + 13, 700), (b + 14, 480)]

/-- A machine in STANDBY with a configuration page offered as page 1. -/
def configuring : State :=
  { on offered with
    mem := [(0x000, 0x4B), (0x001, 0x01), (0x200, 1), (0x203, 0xFFFF)] ++ blockWords 0x240 ++ blockWords 0x260 ++
      blockWords 0x280 ++ blockWords 0x2A0 }

/-- The page of `configuring` passes every structural test. -/
theorem configuring_passes (x : Nat) : ¬structuralTestFails (pageOf configuring.mem 1) x := by
  have window : (configOf (pageOf configuring.mem 1)).window = none := by decide +kernel
  have opens : ∀ i k, (vget (configOf (pageOf configuring.mem 1)).phasers i).widenedFrom k = 990 + 1800 * k.val := by
    decide +kernel
  have stroke : ∀ i, (vget (configOf (pageOf configuring.mem 1)).phasers i).stroke = 100 := by decide +kernel
  rintro (⟨-, w, k, z, h, -⟩ | ⟨-, h⟩ | ⟨i, ⟨-, h⟩ | ⟨-, h⟩ | ⟨-, h⟩ | ⟨-, h⟩ | ⟨-, h⟩ | ⟨k, l, z, hkl, -, hz, h⟩⟩ |
    ⟨j, ⟨-, h⟩ | ⟨-, h⟩⟩)
  · simp [window] at h
  · revert h; decide +kernel
  · revert i; decide +kernel
  · revert i; decide +kernel
  · revert i; decide +kernel
  · revert i; decide +kernel
  · revert i; decide +kernel
  · simp only [PhaserCfg.Widened, InArc, opens, stroke] at h
    omega
  · revert j; decide +kernel
  · revert j; decide +kernel

theorem witness_AConfigurationPageIsAdoptedWhole :
    (configuring.part.standby = true ∧ configuring.mem.read (pageBase 1) = 1 ∧
      ∀ x, ¬structuralTestFails (pageOf configuring.mem 1) x) ∧
    (running.standby = true ∧ running.angle.sync = .cycleLocked ∧
      (running.answerOffer configuring.mem { page := 1, seq := 3, prompt := false }).angle.sync = .cycleLocked) ∧
    (let m := (put 0x20A 1 configuring).mem
     m.read (pageBase 1) = 1 ∧ structuralTestFails (pageOf m 1) 0x0A) :=
  ⟨⟨by decide +kernel, by decide, configuring_passes⟩, by decide +kernel, by decide, .inr (.inl ⟨rfl, by decide +kernel⟩)⟩

/-- R141: the detail of a refusal, by the word that spoils the page. -/
theorem test_structural_tests :
    let detail (a : Nat) (w : Word) : Verdict × Word :=
      let p := running.answerOffer (put a w configuring).mem { page := 1, seq := 3, prompt := false }
      (p.xu.verdict, p.xu.verdictDetail)
    detail 0x20A 1 = (.refusedInvalid, 0x0A) ∧ detail 0x249 850 = (.refusedInvalid, 0x4A) ∧ detail 0x24F 851 = (.refusedInvalid, 0x4F) ∧
    detail 0x250 1 = (.refusedInvalid, 0x50) ∧ detail 0x243 1280 = (.refusedInvalid, 0x43) ∧
    detail 0x2C1 3600 = (.refusedInvalid, 0xC1) ∧ detail 0x203 1000 = (.refusedInvalid, 0x03) := by
  decide +kernel

theorem witness_TheAdoptionMatchWritesTheJournal :
    let p := withSlot 22 (.armed 0 .cycle 100) { running with xu.cycle := 4294967295 }
    p.awake = true ∧ vget p.slots 22 = .armed 0 .cycle 100 ∧ p.xu.offer = none ∧ p.angle.sync = .cycleLocked := by decide

/-- FE FAULTED over a latched OPEN_LOAD of its output that is not present, with OPEN_LOAD set to FORCE. -/
def faulted : Part :=
  withPhaser 1 { PhaserCtx.reset with state := .faulted }
    { running with config := some { calibration with onOpenLoad := .force },
                   latched := vset running.latched (outputUnit 1) 1 }

theorem witness_TheMaskClearsFaultsAndReleasesTheirOwners :
    let kept := faulted.latch .conditionsStale 14 true
    (faulted.isLatched .openLoad (outputUnit 1) = true ∧ (1 : Word).getLsbD Kind.openLoad.code = true ∧
      faulted.isPresent .openLoad (outputUnit 1) = false) ∧
    ((vget faulted.phasers 1).state = .faulted ∧ (vget (faulted.clearFaults 1).phasers 1).state = .parked ∧
      (vget (faulted.clearFaults 0).phasers 1).state = .faulted) ∧
    (kept.isLatched .conditionsStale 14 = true ∧ kept.isPresent .conditionsStale 14 = true ∧
      (0x1000 : Word).getLsbD Kind.conditionsStale.code = true ∧ (0x1000 : Word).getLsbD Kind.oilLow.code = false) ∧
    (vget (withSelector { SelectorCtx.reset with state := .faulted } running).selectors 0).state = .faulted := by
  decide +kernel

theorem witness_ADrivenOutputIsMeasuredAndJudged :
    let p := withChannel 0 { valve with onTicks := 800, openCount := 2 } (withPhaser 0 tracking quiet)
    let c := vget p.channels (phaserOutput 0)
    let bad := { peaking with openLoad := .active, goodCount := 2 }
    (p.awake = true ∧ c.mode = .pwm ∧ c.request = .duty 505 ∧ c.onActive = true ∧ 800 ≤ c.onTicks ∧ c.openLoad = .none ∧
      2 ≤ c.openCount ∧ (max 0 (min 3000 (39 : Int))).toNat < 40 ∧ 40 ≤ (max 0 (min 3000 (40 : Int))).toNat) ∧
    ({ c with onTicks := 799 }.onTicks < 800 ∧ (vget quiet.channels 0).mode ≠ .pwm ∧ valve.openCount < 2) ∧
    ((0 : Fin 6) = phaserOutput 0 ∧ (vget p.phasers 0).state = .tracking ∧ (4 : Fin 6) = selectorOutput 0) ∧
    (peaking.mode = .peak ∧ { peaking with firstCheck := true }.firstCheck = true ∧ peaking.firstCheck = false ∧
      { peaking with mode := .hold }.mode = .hold ∧ (vget quiet.channels (selectorOutput 1)).mode = .off) ∧
    ((max 0 (min 3000 (199 : Int))).toNat < 200 ∧ 200 ≤ (max 0 (min 3000 (200 : Int))).toNat ∧
      (max 0 (min 3000 (59 : Int))).toNat < 60 ∧ 60 ≤ (max 0 (min 3000 (60 : Int))).toNat) ∧
    (bad.openLoad ≠ .none ∧ 2 ≤ bad.goodCount ∧ peaking.goodCount < 2) := by decide

theorem witness_AnOverCurrentTripsTheOutput :
    let p := withChannel 3 valve (withChannel 4 peaking quiet)
    p.awake = true ∧ ((3 : Fin 6) = phaserOutput 3 ∧ (vget p.channels 3).mode = .pwm ∧ (vget p.channels 3).onActive = true ∧
      2500 < 2501 ∧ (vget p.phasers 3).state ≠ .faulted ∧ p.isPresent .overCurrent (outputUnit 3) = false) ∧
    ((4 : Fin 6) = selectorOutput 0 ∧ (vget p.channels 4).mode = .peak ∧
      (vget p.channels 4).request = .energise 1600 500 150 4200 ∧ 1600 + 400 < 2001) ∧
    (vget quiet.channels 0).mode = .off := by decide

theorem witness_APeakPhaseReportsOneDipAndEndsInHold :
    let c := vget (withChannel 4 peaking quiet).channels (selectorOutput 0)
    quiet.awake = true ∧ 1460 ≤ 3000 ∧ c.mode = .peak ∧ c.request = .energise 1600 500 150 4200 ∧
    1460 + 150 ≤ max c.runMax 1460 ∧ c.dipReported = false ∧ max c.runMax 1461 < 1461 + 150 ∧
    (vget quiet.channels (selectorOutput 1)).mode ≠ .peak := by decide

theorem witness_AProbeJudgesOrAbortsItsOutputs :
    (probing.awake = true ∧ probing.standby = true ∧ probing.stage.probe = some 4 ∧
      (vget probing.channels 4).mode = .probe ∧ (vget probing.channels 4).probeResult = .pending ∧
      probing.stage.shutdown = false ∧ probing.stage.discharge = false ∧ (∀ m, (vget probing.channels m).tripped = false) ∧
      (∀ m, (vget probing.channels m).request = .duty 0 ∨ (vget probing.channels m).request = .release) ∧
      ((5 : Fin 6) ≠ 4 ∧ (vget probing.channels 5).probeResult = .pending)) ∧
    (probing.angle.sync = .stopped ∧ probing.angle.rejects 5 = false ∧ (170 : Int) ≤ 170 ∧ (200 : Int) ≤ 200) := by decide

theorem witness_AStageSampleJudgesTheTemperature :
    quiet.awake = true ∧ quiet.stage.warning = false ∧ quiet.stage.shutdown = false ∧ (-40 : Int) ≤ 139 ∧ (200 : Int) ≤ 200 ∧
    { quiet.stage with warning := true, shutdown := true }.warning = true ∧
    { quiet.stage with warning := true, shutdown := true }.shutdown = true := by decide

theorem witness_TheReportsShowTheStateAsItStands :
    let s := put 0x00C 1 (on (withChannel 0 valve quiet))
    let busy := on (writing .snapshot 9)
    (s.part.awake = true ∧ (vget s.part.channels 0).mode ≠ .off ∧ (vget s.part.channels 1).mode = .off ∧
      s.part.stage.probe = none ∧ probing.stage.probe = some 4) ∧
    (s.part.angle.locked = false ∧ s.part.xu.offer = none ∧ s.mem.read 0x00A = s.part.xu.seqSeen ∧
      s.part.xu.unchangedMs + 10 < s.part.cfg.staleMs ∧ s.mem.read 0x00C = 1 ∧
      ∀ r ∈ s.part.xu.records, r.kind ≠ .snapshot) ∧
    ((on quiet).mem.read 0x00C ≠ 1 ∧ ∃ r ∈ busy.part.xu.records, r.kind = .snapshot) ∧
    (quiet.angle.sync ≠ .cycleLocked ∧ running.xu.offer.map Offer.prompt ≠ some true) ∧
    (let o : Offer := { page := 1, seq := 3, prompt := true }
     let p := { running with xu.offer := some o }
     let q := p.writeAngle.answerOffer s.mem o
     p.angle.sync = .cycleLocked ∧ p.xu.offer = some o ∧ o.prompt = true ∧ ∀ r ∈ q.xu.records, r.kind ≠ .snapshot) := by
  decide +kernel

end Sys2Proof.Tests
end

section
/-! SUPPORT. The rules of the shared operations, each said once: the kinds of a set, what a note, an output's request, a
stored phaser context, a cease report and a raise change, and what they leave. -/

namespace Sys2Proof.Machine.PhaserSequencing

/-! ## Sets of kinds -/

theorem allKinds_code (k : Kind) : allKinds[k.code]? = some k := by cases k <;> rfl

theorem code_inj {k l : Kind} : k.code = l.code ↔ k = l :=
  ⟨fun h => by simpa [← h, allKinds_code] using (allKinds_code l), congrArg Kind.code⟩

theorem code_lt (k : Kind) : k.code < 14 := (List.getElem?_eq_some_iff.mp (allKinds_code k)).1

theorem mem_allKinds (k : Kind) : k ∈ allKinds := List.mem_of_getElem? (allKinds_code k)

@[simp] theorem has_add (s : KindSet) (k l : Kind) : KindSet.has (s.add k) l = (s.has l || decide (l = k)) := by
  simp [KindSet.has, KindSet.add, Kind.bitSet, code_lt, ← code_inj, eq_comm]

@[simp] theorem has_drop (s : KindSet) (k l : Kind) : KindSet.has (s.drop k) l = (s.has l && !decide (l = k)) := by
  simp [KindSet.has, KindSet.drop, Kind.bitSet, code_lt, ← code_inj, eq_comm]

/-! ## Notes (R146) -/

/-- A note changes the Exchange Unit alone. -/
theorem note_frame (k : NoteKind) (u : Unit15) (d : Detail) (p : Part) :
    p.note k u d = { p with xu := (p.note k u d).xu } := by
  unfold Part.note
  split
  · rfl
  · split <;> rfl

@[simp] theorem note_angle (k : NoteKind) (u : Unit15) (d : Detail) (p : Part) : (p.note k u d).angle = p.angle := by rw [note_frame]
@[simp] theorem note_phasers (k : NoteKind) (u : Unit15) (d : Detail) (p : Part) :
    (p.note k u d).phasers = p.phasers := by rw [note_frame]
@[simp] theorem note_selectors (k : NoteKind) (u : Unit15) (d : Detail) (p : Part) :
    (p.note k u d).selectors = p.selectors := by rw [note_frame]
@[simp] theorem note_channels (k : NoteKind) (u : Unit15) (d : Detail) (p : Part) :
    (p.note k u d).channels = p.channels := by rw [note_frame]
@[simp] theorem note_latched (k : NoteKind) (u : Unit15) (d : Detail) (p : Part) :
    (p.note k u d).latched = p.latched := by rw [note_frame]
@[simp] theorem note_present (k : NoteKind) (u : Unit15) (d : Detail) (p : Part) :
    (p.note k u d).present = p.present := by rw [note_frame]

/-! ## What reaches the outputs and reports alone -/

/-- What a request to an output and a report to the Cam Edge Unit change at most: the Cam Edge Unit's items, the
channels, OPEN_LOAD in the present sets, and records of the driver status and of the fault summary. -/
structure OnOutputs (p q : Part) : Prop where
  frame : q = { p with cams := q.cams, channels := q.channels, present := q.present, xu.records := q.xu.records }
  present : ∀ k u, k ≠ .openLoad → q.isPresent k u = p.isPresent k u
  records : ∃ rs, q.xu.records = p.xu.records ++ rs ∧ ∀ r ∈ rs, r.kind = .driver ∨ r.kind = .summary

theorem OnOutputs.refl (p : Part) : OnOutputs p p := ⟨rfl, fun _ _ _ => rfl, [], by simp⟩

theorem OnOutputs.trans {p q r : Part} (h : OnOutputs p q) (k : OnOutputs q r) : OnOutputs p r where
  frame := k.frame.trans (congrArg (fun x : Part => { x with
    cams := r.cams, channels := r.channels, present := r.present, xu.records := r.xu.records }) h.frame)
  present := fun kind u hk => (k.present kind u hk).trans (h.present kind u hk)
  records := by
    obtain ⟨a, ha, hka⟩ := h.records
    obtain ⟨b, hb, hkb⟩ := k.records
    exact ⟨a ++ b, by rw [hb, ha, List.append_assoc], fun r hr => (List.mem_append.mp hr).elim (hka r) (hkb r)⟩

section
variable {p q : Part} (h : OnOutputs p q)
include h

theorem OnOutputs.angle : q.angle = p.angle := by rw [h.frame]
theorem OnOutputs.slots : q.slots = p.slots := by rw [h.frame]
theorem OnOutputs.passes : q.passes = p.passes := by rw [h.frame]
theorem OnOutputs.clock : q.clock = p.clock := by rw [h.frame]
theorem OnOutputs.holdTable : q.holdTable = p.holdTable := by rw [h.frame]
theorem OnOutputs.phasers : q.phasers = p.phasers := by rw [h.frame]
theorem OnOutputs.demand : q.demand = p.demand := by rw [h.frame]
theorem OnOutputs.selectors : q.selectors = p.selectors := by rw [h.frame]
theorem OnOutputs.latched : q.latched = p.latched := by rw [h.frame]
theorem OnOutputs.config : q.config = p.config := by rw [h.frame]
theorem OnOutputs.cycle : q.xu.cycle = p.xu.cycle := by rw [h.frame]
theorem OnOutputs.notes : q.xu.notes = p.xu.notes := by rw [h.frame]
theorem OnOutputs.notesWithheld : q.xu.notesWithheld = p.xu.notesWithheld := by rw [h.frame]

end

/-- Channels stored without a record. -/
theorem onOutputs_channels (v : Vector Channel 6) (p : Part) : OnOutputs p { p with channels := v } :=
  ⟨rfl, fun _ _ _ => rfl, [], by simp⟩

/-- A report to the Cam Edge Unit (R38). -/
theorem camReport_onOutputs (i : Fin 4) (state : PhaserState) (confirmed : Bool) (p : Part) :
    OnOutputs p (p.camReport i state confirmed) := ⟨rfl, fun _ _ _ => rfl, [], by simp⟩

theorem putChannel_onOutputs (n : Fin 6) (c : Channel) (p : Part) : OnOutputs p (p.putChannel n c) := by
  unfold Part.putChannel
  dsimp only
  split
  · exact ⟨rfl, fun _ _ _ => rfl, [_], rfl, by simp⟩
  · exact onOutputs_channels _ p

/-- OPEN_LOAD clears itself under no configuration (R123), so that its end changes no latched set and no owner. -/
theorem cease_openLoad_onOutputs (u : Unit15) (p : Part) : OnOutputs p (p.cease .openLoad u) := by
  have others : ∀ (v : Vector KindSet 15) (k : Kind) (w : Unit15), k ≠ .openLoad →
      v = vset p.present u (KindSet.drop (vget p.present u) .openLoad) →
      (vget v w).has k = p.isPresent k w := by
    rintro v k w hk rfl
    by_cases hw : w = u
    · subst hw; simp [Part.isPresent, hk]
    · simp [Part.isPresent, vget_vset_other _ _ _ _ hw]
  unfold Part.cease
  split
  · exact ⟨rfl, fun k w hk => others _ k w hk rfl, [_], rfl, by simp⟩
  · exact .refl p

theorem channelOff_onOutputs (n : Fin 6) (p : Part) : OnOutputs p (p.channelOff n) := by
  unfold Part.channelOff
  dsimp only
  split
  · exact .refl p
  · split
    · exact (putChannel_onOutputs n _ p).trans (cease_openLoad_onOutputs _ _)
    · exact putChannel_onOutputs n _ p

theorem applyRequest_onOutputs (n : Fin 6) (p : Part) : OnOutputs p (p.applyRequest n) := by
  unfold Part.applyRequest
  dsimp only
  split
  · exact channelOff_onOutputs n p
  split
  · exact .refl p
  split
  · exact channelOff_onOutputs n p
  · exact putChannel_onOutputs n _ p
  · split
    · exact channelOff_onOutputs n p
    · split
      · exact .refl p
      · exact putChannel_onOutputs n _ p

theorem request_onOutputs (n : Fin 6) (r : Request) (p : Part) : OnOutputs p (p.request n r) :=
  (onOutputs_channels _ p).trans (applyRequest_onOutputs n _)

/-! ## The stored requests (R106) -/

theorem putChannel_request (n l : Fin 6) (c : Channel) (p : Part) (h : c.request = (vget p.channels n).request) :
    (vget (p.putChannel n c).channels l).request = (vget p.channels l).request := by
  have stored : (vget (vset p.channels n c) l).request = (vget p.channels l).request := by
    by_cases hl : l = n
    · subst hl; simpa using h
    · rw [vget_vset_other _ _ _ _ hl]
  unfold Part.putChannel
  dsimp only
  split <;> exact stored

theorem cease_openLoad_channels (u : Unit15) (p : Part) : (p.cease .openLoad u).channels = p.channels := by
  unfold Part.cease
  split <;> rfl

theorem channelOff_request (n l : Fin 6) (p : Part) :
    (vget (p.channelOff n).channels l).request = (vget p.channels l).request := by
  unfold Part.channelOff
  dsimp only
  split
  · rfl
  · split
    · rw [cease_openLoad_channels, putChannel_request _ _ _ _ (by rfl)]
    · rw [putChannel_request _ _ _ _ (by rfl)]

theorem applyRequest_request (n l : Fin 6) (p : Part) :
    (vget (p.applyRequest n).channels l).request = (vget p.channels l).request := by
  unfold Part.applyRequest
  dsimp only
  split
  · exact channelOff_request n l p
  split
  · rfl
  split
  · exact channelOff_request n l p
  · exact putChannel_request n l _ p rfl
  · split
    · exact channelOff_request n l p
    · split
      · rfl
      · exact putChannel_request n l _ p rfl

/-- A request replaces the stored one of its output, and no other's. -/
theorem request_request (n l : Fin 6) (r : Request) (p : Part) :
    (vget (p.request n r).channels l).request = if l = n then r else (vget p.channels l).request := by
  unfold Part.request
  dsimp only
  rw [applyRequest_request]
  by_cases hl : l = n
  · subst hl; simp
  · simp [vget_vset_other _ _ _ _ hl, hl]

@[simp] theorem selectorOutput_ne_phaserOutput (j : Fin 2) (i : Fin 4) : selectorOutput j ≠ phaserOutput i := by
  intro h
  have := congrArg Fin.val h
  simp only [selectorOutput, phaserOutput] at this
  omega

/-! ## Cease reports and the judgement of releases (R123, R132) -/

/-- A context released from fault (R64, R132). -/
def unfaulted (c : PhaserCtx) : PhaserCtx := { c with state := .parked, confirmed := false, settle := 0 }

theorem releasePhaser_phasers (i : Fin 4) (p : Part) :
    (p.releasePhaser i).phasers = vset p.phasers i (unfaulted (vget p.phasers i)) := rfl

/-- The judgement of releases changes no fault set, no setting, no stored duty and no phaser's request; a phaser stays
as it is, or is released from a fault that nothing keeps. -/
structure Judged (p q : Part) : Prop where
  latched : q.latched = p.latched
  present : q.present = p.present
  config : q.config = p.config
  requests : ∀ i, (vget q.channels (phaserOutput i)).request = (vget p.channels (phaserOutput i)).request
  phasers : ∀ i, vget q.phasers i = vget p.phasers i ∨
    ((vget p.phasers i).state = .faulted ∧ p.phaserKept i = false ∧ vget q.phasers i = unfaulted (vget p.phasers i))

theorem Judged.refl (p : Part) : Judged p p := ⟨rfl, rfl, rfl, fun _ => rfl, fun _ => .inl rfl⟩

/-- What keeps a phaser faulted is read from the latched sets and the settings. -/
theorem phaserKept_congr {p q : Part} (hl : q.latched = p.latched) (hc : q.config = p.config) (i : Fin 4) :
    q.phaserKept i = p.phaserKept i := by
  simp only [Part.phaserKept, Part.latchedWith, Part.isLatched, Part.cfg, hl, hc]

theorem Judged.trans {p q r : Part} (h : Judged p q) (k : Judged q r) : Judged p r where
  latched := k.latched.trans h.latched
  present := k.present.trans h.present
  config := k.config.trans h.config
  requests := fun i => (k.requests i).trans (h.requests i)
  phasers := fun i => by
    rcases k.phasers i with e | ⟨hf, hk, e⟩
    · rw [e]; exact h.phasers i
    · rcases h.phasers i with e' | ⟨_, _, e'⟩
      · rw [e'] at hf e
        exact .inr ⟨hf, (phaserKept_congr h.latched h.config i).symm.trans hk, e⟩
      · rw [e'] at hf; cases hf

theorem Judged.foldl {α : Type} (l : List α) (f : Part → α → Part) (hf : ∀ (p : Part) a, Judged p (f p a)) (p : Part) :
    Judged p (l.foldl f p) := by
  induction l generalizing p with
  | nil => exact .refl p
  | cons a l ih => exact (hf p a).trans (ih _)

theorem judgePhaser_judged (i : Fin 4) (p : Part) : Judged p (p.judgePhaser i) := by
  unfold Part.judgePhaser
  split
  · next h =>
    refine ⟨rfl, rfl, rfl, fun _ => rfl, fun l => ?_⟩
    rw [releasePhaser_phasers]
    by_cases hl : l = i
    · subst hl; exact .inr ⟨h.1, h.2, by simp⟩
    · exact .inl (vget_vset_other _ _ _ _ hl)
  · exact .refl p

theorem judgeSelector_judged (j : Fin 2) (p : Part) : Judged p (p.judgeSelector j) := by
  unfold Part.judgeSelector
  split
  · refine ⟨rfl, rfl, rfl, fun i => ?_, fun _ => .inl rfl⟩
    exact congrArg Channel.request (vget_vset_other p.channels _ _ _ (selectorOutput_ne_phaserOutput j i).symm)
  · exact .refl p

theorem judgeReleases_judged (p : Part) : Judged p p.judgeReleases :=
  (Judged.foldl _ _ (fun p i => judgePhaser_judged i p) p).trans (Judged.foldl _ _ (fun p j => judgeSelector_judged j p) _)

/-- The three ways a cease report goes: the kind is not present, it leaves the present set alone, or it leaves both sets
and faulted owners are judged. -/
theorem cease_cases (k : Kind) (u : Unit15) (p : Part) :
    (p.isPresent k u = false ∧ p.cease k u = p) ∨
    (p.isPresent k u = true ∧ (p.cfg.clearsItself k && p.isLatched k u) = false ∧
      p.cease k u = { p with present := vset p.present u (KindSet.drop (vget p.present u) k) }.writeSummary) ∨
    (p.isPresent k u = true ∧ (p.cfg.clearsItself k && p.isLatched k u) = true ∧
      p.cease k u = (Part.unlatch k u
        { p with present := vset p.present u (KindSet.drop (vget p.present u) k) }).writeSummary.judgeReleases) := by
  unfold Part.cease
  by_cases hp : p.isPresent k u = true
  case neg => exact .inl ⟨by simpa using hp, if_neg hp⟩
  rw [if_pos hp]
  by_cases hl : (p.cfg.clearsItself k && p.isLatched k u) = true
  · exact .inr (.inr ⟨hp, hl, if_pos hl⟩)
  · exact .inr (.inl ⟨hp, by simpa using hl, if_neg hl⟩)

/-- Membership in a row of sets with a kind dropped from one. -/
theorem has_vset_drop (v : Vector KindSet 15) (k l : Kind) (u w : Unit15) :
    (vget (vset v u (KindSet.drop (vget v u) k)) w).has l = ((vget v w).has l && !decide (l = k ∧ w = u)) := by
  by_cases hw : w = u
  · subst hw; simp
  · simp [vget_vset_other _ _ _ _ hw, hw]

/-- A ceased kind is not present; every other stays as it was. -/
theorem cease_isPresent (k l : Kind) (u w : Unit15) (p : Part) :
    (p.cease k u).isPresent l w = (p.isPresent l w && !decide (l = k ∧ w = u)) := by
  have dropped := has_vset_drop p.present k l u w
  rcases cease_cases k u p with ⟨hp, e⟩ | ⟨_, _, e⟩ | ⟨_, _, e⟩
  · rw [e]
    by_cases h : l = k ∧ w = u
    · rw [h.1, h.2, hp]; simp
    · simp [h]
  · rw [e]; exact dropped
  · rw [e, Part.isPresent, (judgeReleases_judged _).present]; exact dropped

/-- A kind that does not clear itself leaves the latched sets as they were. -/
theorem cease_latched_of_keeps (k : Kind) (u : Unit15) (p : Part) (h : p.cfg.clearsItself k = false) :
    (p.cease k u).latched = p.latched := by
  rcases cease_cases k u p with ⟨_, e⟩ | ⟨_, _, e⟩ | ⟨_, hl, e⟩
  · rw [e]
  · rw [e]; rfl
  · simp [h] at hl

/-- A present kind that clears itself is latched no more once it ceases. -/
theorem cease_isLatched_same (k : Kind) (u : Unit15) (p : Part) (h : p.cfg.clearsItself k = true)
    (hp : p.isPresent k u = true) : (p.cease k u).isLatched k u = false := by
  rcases cease_cases k u p with ⟨hn, _⟩ | ⟨_, hl, e⟩ | ⟨_, _, e⟩
  · rw [hp] at hn; cases hn
  · have off : p.isLatched k u = false := by simpa [h] using hl
    rw [e]; exact off
  · rw [e, Part.isLatched, (judgeReleases_judged _).latched]
    exact (has_vset_drop p.latched k k u u).trans (by simp)

/-- A cease report leaves every other kind latched as it was. -/
theorem cease_isLatched_other (k l : Kind) (u w : Unit15) (p : Part) (h : l ≠ k) :
    (p.cease k u).isLatched l w = p.isLatched l w := by
  rcases cease_cases k u p with ⟨_, e⟩ | ⟨_, _, e⟩ | ⟨_, _, e⟩
  · rw [e]
  · rw [e]; rfl
  · rw [e, Part.isLatched, (judgeReleases_judged _).latched]
    exact (has_vset_drop p.latched k l u w).trans (by simp [h, Part.isLatched])

/-- A cease report leaves a phaser's context, or releases it from a fault that nothing keeps any more. -/
theorem cease_phaser (k : Kind) (u : Unit15) (p : Part) (i : Fin 4) :
    vget (p.cease k u).phasers i = vget p.phasers i ∨
    ((vget p.phasers i).state = .faulted ∧ (p.cease k u).phaserKept i = false ∧
      vget (p.cease k u).phasers i = unfaulted (vget p.phasers i)) := by
  rcases cease_cases k u p with ⟨_, e⟩ | ⟨_, _, e⟩ | ⟨_, _, e⟩
  · exact .inl (by rw [e])
  · exact .inl (by rw [e]; rfl)
  · rw [e]
    have judged := judgeReleases_judged (Part.unlatch k u
      { p with present := vset p.present u (KindSet.drop (vget p.present u) k) }).writeSummary
    rcases judged.phasers i with h | ⟨hf, hk, h⟩
    · exact .inl h
    · exact .inr ⟨hf, (phaserKept_congr judged.latched judged.config i).trans hk, h⟩

/-- A phaser that is not faulted is left by every cease report. -/
theorem cease_phaser_of_ne (k : Kind) (u : Unit15) (p : Part) (i : Fin 4) (h : (vget p.phasers i).state ≠ .faulted) :
    vget (p.cease k u).phasers i = vget p.phasers i :=
  (cease_phaser k u p i).resolve_right fun ⟨hf, _⟩ => h hf

/-- No cease report changes a phaser's request to its output. -/
theorem cease_request (k : Kind) (u : Unit15) (p : Part) (i : Fin 4) :
    (vget (p.cease k u).channels (phaserOutput i)).request = (vget p.channels (phaserOutput i)).request := by
  rcases cease_cases k u p with ⟨_, e⟩ | ⟨_, _, e⟩ | ⟨_, _, e⟩
  · rw [e]
  · rw [e]; rfl
  · rw [e]; exact (judgeReleases_judged _).requests i

/-- No cease report changes a stored duty. -/
theorem cease_duty (k : Kind) (u : Unit15) (p : Part) (i : Fin 4) :
    (vget (p.cease k u).phasers i).duty = (vget p.phasers i).duty := by
  rcases cease_phaser k u p i with e | ⟨_, _, e⟩
  · rw [e]
  · rw [e]; rfl

/-! ## Phaser contexts (R38, R46, R57) -/

/-- Storing a context: the context, and what goes to the output and to the Cam Edge Unit. -/
theorem storePhaser_onOutputs (i : Fin 4) (c : PhaserCtx) (p : Part) :
    OnOutputs { p with phasers := vset p.phasers i c } (p.storePhaser i c) := by
  unfold Part.storePhaser
  dsimp only
  split <;> split
  · exact (camReport_onOutputs _ _ _ _).trans (request_onOutputs _ _ _)
  · exact request_onOutputs _ _ _
  · exact camReport_onOutputs _ _ _ _
  · exact .refl _

/-- Storing a context with the same duty tells the Cam Edge Unit at most. -/
theorem storePhaser_same_duty (i : Fin 4) (c : PhaserCtx) (p : Part) (h : c.duty = (vget p.phasers i).duty) :
    p.storePhaser i c =
      { p with phasers := vset p.phasers i c, cams := (p.storePhaser i c).cams } := by
  unfold Part.storePhaser
  simp only [h, ne_eq, not_true, if_false]
  split <;> rfl

/-- A changed duty is the output's new request, and an unchanged one leaves the request (R46). -/
theorem storePhaser_request (i : Fin 4) (c : PhaserCtx) (p : Part) :
    (vget (p.storePhaser i c).channels (phaserOutput i)).request =
      if (vget p.phasers i).duty ≠ c.duty then .duty c.duty else (vget p.channels (phaserOutput i)).request := by
  unfold Part.storePhaser
  dsimp only
  (split <;> split) <;> simp [request_request]

/-- An end of TRACKING_ERROR at an entry into PARKED or FAULTED (R57), or nothing. -/
theorem endTracking_of_stay (i : Fin 4) (old new : PhaserState) (p : Part)
    (h : old = new ∨ (new ≠ .parked ∧ new ≠ .faulted)) : p.endTracking i old new = p := by
  unfold Part.endTracking
  rw [if_neg]
  rintro ⟨hne, hs⟩
  rcases h with h | ⟨hp, hf⟩
  · exact hne h
  · exact hs.elim hp hf

theorem endTracking_of_enter (i : Fin 4) (old new : PhaserState) (p : Part) (hne : old ≠ new)
    (h : new = .parked ∨ new = .faulted) : p.endTracking i old new = p.cease .trackingError (phaserUnit i) :=
  if_pos ⟨hne, h⟩

/-- A context is stored: the faults, the settings and the selectors stay, and a changed duty is the output's new
request, with nothing told to the outputs when the duty stays. -/
structure ContextStored (i : Fin 4) (c : PhaserCtx) (p q : Part) : Prop where
  phasers : q.phasers = vset p.phasers i c
  latched : q.latched = p.latched
  present : ∀ k u, k ≠ .openLoad → q.isPresent k u = p.isPresent k u
  config : q.config = p.config
  selectors : q.selectors = p.selectors
  channels : c.duty = (vget p.phasers i).duty → q.channels = p.channels
  request : (vget q.channels (phaserOutput i)).request =
    if (vget p.phasers i).duty ≠ c.duty then .duty c.duty else (vget p.channels (phaserOutput i)).request

theorem storePhaser_stored (i : Fin 4) (c : PhaserCtx) (p : Part) : ContextStored i c p (p.storePhaser i c) where
  phasers := (storePhaser_onOutputs i c p).phasers
  latched := (storePhaser_onOutputs i c p).latched
  present := (storePhaser_onOutputs i c p).present
  config := (storePhaser_onOutputs i c p).config
  selectors := (storePhaser_onOutputs i c p).selectors
  channels := fun h => by rw [storePhaser_same_duty i c p h]
  request := storePhaser_request i c p

theorem ContextStored.written {i : Fin 4} {c : PhaserCtx} {p q : Part} (h : ContextStored i c p q) :
    ContextStored i c p (q.writePhaser i) :=
  ⟨h.phasers, h.latched, h.present, h.config, h.selectors, h.channels, h.request⟩

/-- Changing a context stores it and then ends TRACKING_ERROR at an entry into PARKED or FAULTED. -/
theorem changePhaser_stored (i : Fin 4) (c : PhaserCtx) (p : Part) :
    ∃ q, ContextStored i c p q ∧ p.changePhaser i c = q.endTracking i (vget p.phasers i).state c.state := by
  unfold Part.changePhaser
  dsimp only
  split
  · exact ⟨_, (storePhaser_stored i c p).written, rfl⟩
  · exact ⟨_, storePhaser_stored i c p, rfl⟩

/-- A FORCE reaction stores the faulted context and then ends TRACKING_ERROR (R57, R62). -/
theorem forcePhaser_stored (i : Fin 4) (p : Part) (h : (vget p.phasers i).state ≠ .faulted) :
    ∃ q, ContextStored i (vget p.phasers i).toFaulted p q ∧
      p.forcePhaser i = q.cease .trackingError (phaserUnit i) := by
  obtain ⟨q, hq, e⟩ := changePhaser_stored i (vget p.phasers i).toFaulted p
  refine ⟨q, hq, ?_⟩
  unfold Part.forcePhaser
  rw [if_neg h, e]
  exact endTracking_of_enter i _ _ q h (.inr rfl)

/-- A PARK reaction sends an UNLOCKING, TRACKING or HOLDING phaser to RETURNING (R63). -/
theorem parkPhaser_stored (i : Fin 4) (p : Part)
    (h : (vget p.phasers i).state = .unlocking ∨ (vget p.phasers i).state = .tracking ∨
      (vget p.phasers i).state = .holding) :
    ContextStored i ((vget p.phasers i).toReturning (p.phaserCfg i).parkDuty) p (p.parkPhaser i) := by
  obtain ⟨q, hq, e⟩ := changePhaser_stored i ((vget p.phasers i).toReturning (p.phaserCfg i).parkDuty) p
  rw [endTracking_of_stay _ _ _ _ (.inr ⟨PhaserState.noConfusion, PhaserState.noConfusion⟩)] at e
  have parks : p.parkPhaser i = p.changePhaser i ((vget p.phasers i).toReturning (p.phaserCfg i).parkDuty) := by
    unfold Part.parkPhaser
    rcases h with h | h | h <;> simp only [h]
  rw [parks, e]
  exact hq

/-- A PARK reaction leaves a phaser that is RETURNING, PARKED or FAULTED (R63). -/
theorem parkPhaser_of_rest (i : Fin 4) (p : Part) (h : (vget p.phasers i).state = .returning ∨
    (vget p.phasers i).state = .parked ∨ (vget p.phasers i).state = .faulted) : p.parkPhaser i = p := by
  unfold Part.parkPhaser
  rcases h with h | h | h <;> simp only [h]

/-! ## Raises on a phaser's unit (R124, R127) -/

theorem react_phaser_force (i : Fin 4) (p : Part) : p.react (phaserUnit i) .force = p.forcePhaser i := by
  match i with
  | 0 | 1 | 2 | 3 => rfl

theorem react_phaser_park (i : Fin 4) (p : Part) : p.react (phaserUnit i) .park = p.parkPhaser i := by
  match i with
  | 0 | 1 | 2 | 3 => rfl

theorem react_phaser_proceed (i : Fin 4) (p : Part) : p.react (phaserUnit i) .proceed = p := by
  match i with
  | 0 | 1 | 2 | 3 => rfl

/-- The part as the reaction of a raise finds it: the kind in its sets, and the summary handed over. -/
def latchedSummary (k : Kind) (u : Unit15) (b : Bool) (p : Part) : Part := (p.latch k u b).writeSummary

/-- The latch changes the fault sets alone. -/
theorem latchedSummary_frame (k : Kind) (u : Unit15) (b : Bool) (p : Part) :
    latchedSummary k u b p = { p with
      latched := vset p.latched u (KindSet.add (vget p.latched u) k), present := (latchedSummary k u b p).present,
      xu := (latchedSummary k u b p).xu } := by
  unfold latchedSummary Part.latch
  cases b <;> rfl

@[simp] theorem latchedSummary_phasers (k : Kind) (u : Unit15) (b : Bool) (p : Part) :
    (latchedSummary k u b p).phasers = p.phasers := by rw [latchedSummary_frame]
@[simp] theorem latchedSummary_channels (k : Kind) (u : Unit15) (b : Bool) (p : Part) :
    (latchedSummary k u b p).channels = p.channels := by rw [latchedSummary_frame]
@[simp] theorem latchedSummary_config (k : Kind) (u : Unit15) (b : Bool) (p : Part) :
    (latchedSummary k u b p).config = p.config := by rw [latchedSummary_frame]

theorem latchedSummary_isLatched (k : Kind) (u : Unit15) (b : Bool) (p : Part) :
    (latchedSummary k u b p).isLatched k u = true := by
  rw [latchedSummary_frame, Part.isLatched]
  simp

theorem latchedSummary_isPresent (k : Kind) (u : Unit15) (p : Part) :
    (latchedSummary k u true p).isPresent k u = true := by
  have added : KindSet.has (vget (vset p.present u (KindSet.add (vget p.present u) k)) u) k = true := by simp
  exact added

/-- A raise: the kind joins its sets, the reaction follows, and then the note and FAULT. -/
theorem raise_eq {k : Kind} {r : Reaction} (u : Unit15) (d : Detail) (b : Bool) (p : Part)
    (h : p.cfg.reaction k = some r) :
    p.raise k u d b = (((latchedSummary k u b p).react u r).note (.fault k) u d).setCause .fault := by
  have found : (latchedSummary k u b p).cfg.reaction k = some r := by
    rw [← h]; unfold Part.cfg; rw [latchedSummary_config]
  unfold latchedSummary at found ⊢
  unfold Part.raise
  dsimp only
  rw [found]

section
variable {k : Kind} {r : Reaction} (u : Unit15) (d : Detail) (b : Bool) (p : Part) (h : p.cfg.reaction k = some r)
include h

theorem raise_phasers : (p.raise k u d b).phasers = ((latchedSummary k u b p).react u r).phasers := by
  rw [raise_eq u d b p h]; simp
theorem raise_latched : (p.raise k u d b).latched = ((latchedSummary k u b p).react u r).latched := by
  rw [raise_eq u d b p h]; simp
theorem raise_present : (p.raise k u d b).present = ((latchedSummary k u b p).react u r).present := by
  rw [raise_eq u d b p h]; simp

end

/-- Every raise sets the attention cause FAULT (R124). -/
theorem raise_attn (k : Kind) (u : Unit15) (d : Detail) (b : Bool) (p : Part) :
    (p.raise k u d b).xu.attn.getLsbD 1 = true := by
  unfold Part.raise
  simp [Cause.bit]

/-- A kind that is latched with reaction FORCE keeps its phaser faulted (R132). -/
theorem phaserKept_of_force {k : Kind} {i : Fin 4} {p : Part} (hl : p.isLatched k (phaserUnit i) = true)
    (hr : p.cfg.reaction k = some .force) : p.phaserKept i = true := by
  have latched : p.latchedWith (phaserUnit i) (· = .force) = true :=
    List.any_eq_true.mpr ⟨k, mem_allKinds k, by simp [hl, hr]⟩
  simp [Part.phaserKept, latched]

/-- A raise with reaction FORCE faults its phaser, when the kind stays latched through the end of TRACKING_ERROR. -/
theorem raise_force {k : Kind} (i : Fin 4) (d : Detail) (b : Bool) (p : Part) (h : p.cfg.reaction k = some .force)
    (hs : (vget p.phasers i).state ≠ .faulted) (hk : k ≠ .trackingError ∨ p.cfg.clearsItself .trackingError = false) :
    vget (p.raise k (phaserUnit i) d b).phasers i = (vget p.phasers i).toFaulted ∧
      (p.raise k (phaserUnit i) d b).isLatched k (phaserUnit i) = true := by
  obtain ⟨q, hq, e⟩ := forcePhaser_stored i (latchedSummary k (phaserUnit i) b p) (by simpa using hs)
  have config : q.config = p.config := by simpa using hq.config
  have latched : q.isLatched k (phaserUnit i) = true := by
    rw [Part.isLatched, hq.latched]; exact latchedSummary_isLatched k _ b p
  have stays : (q.cease .trackingError (phaserUnit i)).isLatched k (phaserUnit i) = true := by
    rcases hk with hk | hk
    · rw [cease_isLatched_other _ _ _ _ _ hk]; exact latched
    · have keeps : q.cfg.clearsItself .trackingError = false := by unfold Part.cfg; rw [config]; exact hk
      rw [Part.isLatched, cease_latched_of_keeps _ _ _ keeps]; exact latched
  have cfg : (q.cease .trackingError (phaserUnit i)).cfg = p.cfg := by
    unfold Part.cfg; rw [(q.cease_outward _ _).config, config]
  constructor
  · rw [raise_phasers _ d b p h, react_phaser_force, e]
    rcases cease_phaser .trackingError (phaserUnit i) q i with e' | ⟨_, hkept, _⟩
    · rw [e', hq.phasers]; simp
    · rw [phaserKept_of_force stays (by rw [cfg]; exact h)] at hkept; cases hkept
  · rw [Part.isLatched, raise_latched _ d b p h, react_phaser_force, e]; exact stays

/-! ## What an update's outcome hands out (R46, R78, R80, R86) -/

/-- What the reports of an update change at most: the hold table and the Exchange Unit's notes and records. -/
structure Reports (p q : Part) : Prop where
  frame : q = { p with holdTable := q.holdTable, xu := q.xu }
  rest : q.xu.rest = p.xu.rest
  records : ∃ rs, q.xu.records = p.xu.records ++ rs

theorem Reports.refl (p : Part) : Reports p p := ⟨rfl, rfl, [], by simp⟩

theorem Reports.trans {p q r : Part} (h : Reports p q) (k : Reports q r) : Reports p r where
  frame := k.frame.trans (congrArg (fun x : Part => { x with holdTable := r.holdTable, xu := r.xu }) h.frame)
  rest := k.rest.trans h.rest
  records := by
    obtain ⟨a, ha⟩ := h.records
    obtain ⟨b, hb⟩ := k.records
    exact ⟨a ++ b, by rw [hb, ha, List.append_assoc]⟩

theorem handOver_reports (kind : RecordKind) (words : List Word) (p : Part) : Reports p (p.handOver kind words) :=
  ⟨rfl, rfl, _, rfl⟩

theorem note_reports (k : NoteKind) (u : Unit15) (d : Detail) (p : Part) : Reports p (p.note k u d) :=
  ⟨by rw [note_frame], (p.note_outward k u d).rest, (p.note_outward k u d).records⟩

/-- A learned entry is stored and its record handed over (R78). -/
def storeEntry (n : Fin 32) (e : Option HoldEntry) (p : Part) : Part :=
  match e with
  | some e => { p with holdTable := vset p.holdTable n e }.writeHold n
  | none => p

theorem storeEntry_reports (n : Fin 32) (e : Option HoldEntry) (p : Part) : Reports p (storeEntry n e p) := by
  cases e with
  | none => exact .refl p
  | some e => exact ⟨rfl, rfl, _, rfl⟩

/-- The reports of an update between the stored context and the ends of TRACKING_ERROR. -/
def reported (m : Mem) (i : Fin 4) (o : UpdateOut) (p : Part) : Part :=
  let p := if o.computed then p.updateExtremes m i o.ctx else p
  let p := storeEntry (holdIndex i o.ctx.band) o.entry p
  let p := if o.limited then p.note .learnLimit (phaserUnit i) (detailOf o.ctx.band) else p
  p.writePhaser i

/-- The ends of TRACKING_ERROR that an update brings (R57). -/
def ended (i : Fin 4) (was : PhaserState) (o : UpdateOut) (p : Part) : Part :=
  let p := p.endTracking i was o.ctx.state
  if o.recovered then p.cease .trackingError (phaserUnit i) else p

/-- An update's outcome is stored, reported, ends TRACKING_ERROR, and raises. -/
theorem finishUpdate_eq (m : Mem) (i : Fin 4) (was : PhaserState) (o : UpdateOut) (p : Part) :
    p.finishUpdate m i was o =
      o.raises.foldl (fun p r => p.raise r.1 (phaserUnit i) r.2 r.1.raisedPresent)
        (ended i was o (reported m i o (p.storePhaser i o.ctx))) := rfl

theorem reported_reports (m : Mem) (i : Fin 4) (o : UpdateOut) (p : Part) : Reports p (reported m i o p) := by
  have extremes : ∀ q, Reports q (if o.computed = true then q.updateExtremes m i o.ctx else q) := by
    intro q
    split
    · exact handOver_reports _ _ q
    · exact .refl q
  have noted : ∀ q, Reports q
      (if o.limited = true then q.note .learnLimit (phaserUnit i) (detailOf o.ctx.band) else q) := by
    intro q
    split
    · exact note_reports _ _ _ q
    · exact .refl q
  exact (((extremes p).trans (storeEntry_reports _ _ _)).trans (noted _)).trans (handOver_reports _ _ _)

theorem ended_outward (i : Fin 4) (was : PhaserState) (o : UpdateOut) (p : Part) : p.Outward (ended i was o p) := by
  unfold ended
  dsimp only
  split
  · exact (p.endTracking_outward i _ _).trans (Part.cease_outward _ _ _)
  · exact p.endTracking_outward i _ _

/-- What follows the reports of an update is outward. -/
theorem finishUpdate_outward (m : Mem) (i : Fin 4) (was : PhaserState) (o : UpdateOut) (p : Part) :
    (reported m i o (p.storePhaser i o.ctx)).Outward (p.finishUpdate m i was o) :=
  (ended_outward i was o _).trans (.foldl _ _ (fun p _ => p.raise_outward _ _ _ _) _)

end Sys2Proof.Machine.PhaserSequencing
end

section
/-! SUPPORT. Control under cycle lock (O5): no operation but a change of the sync state moves it, no operation but a
phaser's update in CYCLE_LOCKED brings a phaser under control, and leaving CYCLE_LOCKED drops every phaser. -/

namespace Sys2Proof.Machine.PhaserSequencing

/-! ## Operations that keep the sync state and bring no phaser under control -/

/-- The sync state stays, and no phaser comes under control. -/
structure Steady (p q : Part) : Prop where
  sync : q.angle.sync = p.angle.sync
  driven : ∀ i, (vget q.phasers i).state.driven = true → (vget p.phasers i).state.driven = true

theorem Steady.refl (p : Part) : Steady p p := ⟨rfl, fun _ h => h⟩

theorem Steady.trans {p q r : Part} (h : Steady p q) (k : Steady q r) : Steady p r :=
  ⟨k.sync.trans h.sync, fun i hi => h.driven i (k.driven i hi)⟩

theorem Steady.foldl {α : Type} (l : List α) (f : Part → α → Part) (hf : ∀ (p : Part) a, Steady p (f p a)) (p : Part) :
    Steady p (l.foldl f p) := by
  induction l generalizing p with
  | nil => exact .refl p
  | cons a l ih => exact (hf p a).trans (ih _)

theorem steady_of_still {p q : Part} (h : p.Still q) (hs : q.angle.sync = p.angle.sync) : Steady p q := ⟨hs, h.driven⟩

theorem steady_of_eq {p q : Part} (ha : q.angle.sync = p.angle.sync) (hp : q.phasers = p.phasers) : Steady p q :=
  ⟨ha, fun i h => by rwa [hp] at h⟩

theorem steady_of_outward {p q : Part} (h : p.Outward q) : Steady p q :=
  steady_of_still h.toStill (congrArg AngleUnit.sync h.angle)

/-- Steady operations keep control under cycle lock. -/
theorem Steady.locked {p q : Part} (h : Steady p q) (hp : p.DrivenLocked) : q.DrivenLocked :=
  fun i hi => h.sync.trans (hp i (h.driven i hi))

/-- In CYCLE_LOCKED there is nothing to keep. -/
theorem locked_of_cycle {p : Part} (h : p.angle.sync = .cycleLocked) : p.DrivenLocked := fun _ _ => h

/-- A run of operations that keep control under cycle lock keeps it. -/
theorem foldl_locked {α : Type} (l : List α) (f : Part → α → Part)
    (hf : ∀ (p : Part) a, p.DrivenLocked → (f p a).DrivenLocked) (p : Part) (hp : p.DrivenLocked) :
    (l.foldl f p).DrivenLocked := by
  induction l generalizing p with
  | nil => exact hp
  | cons a l ih => exact ih _ (hf p a hp)

/-- A choice between two operations that keep control under cycle lock keeps it. -/
theorem ite_locked {c : Prop} [Decidable c] {p q : Part} (hp : p.DrivenLocked) (hq : q.DrivenLocked) :
    (if c then p else q).DrivenLocked := by
  split
  · exact hp
  · exact hq

/-- A choice between two steady operations is steady. -/
theorem Steady.ite {c : Prop} [Decidable c] {p q r : Part} (hq : Steady p q) (hr : Steady p r) :
    Steady p (if c then q else r) := by
  split
  · exact hq
  · exact hr

/-! ## What leaves the Angle Unit as it was -/

@[simp] theorem cease_angle (k : Kind) (u : Unit15) (p : Part) : (p.cease k u).angle = p.angle :=
  (p.cease_outward k u).angle

@[simp] theorem raise_angle (k : Kind) (u : Unit15) (d : Detail) (b : Bool) (p : Part) :
    (p.raise k u d b).angle = p.angle := (p.raise_outward k u d b).angle

@[simp] theorem request_angle (n : Fin 6) (r : Request) (p : Part) : (p.request n r).angle = p.angle :=
  (p.request_outward n r).angle

@[simp] theorem holdHead_angle (j : Fin 2) (p : Part) : (p.holdHead j).angle = p.angle := (p.holdHead_outward j).angle

@[simp] theorem releaseHead_angle (j : Fin 2) (p : Part) : (p.releaseHead j).angle = p.angle :=
  (p.releaseHead_outward j).angle

@[simp] theorem requestMatch_angle (k : Fin 24) (x : Nat) (kind : MatchKind) (p : Part) :
    (p.requestMatch k x kind).angle = p.angle := by
  unfold Part.requestMatch
  split <;> rfl

@[simp] theorem requestMark_angle (p : Part) : p.requestMark.angle = p.angle := by
  unfold Part.requestMark
  split
  · split
    · exact requestMatch_angle _ _ _ _
    · rfl
  · rfl

@[simp] theorem writeSelector_angle (j : Fin 2) (p : Part) : (p.writeSelector j).angle = p.angle := rfl

@[simp] theorem changeSelector_angle (j : Fin 2) (c : SelectorCtx) (p : Part) :
    (p.changeSelector j c).angle = p.angle := by
  unfold Part.changeSelector
  dsimp only
  split
  · rfl
  · split <;> split <;> simp

@[simp] theorem deferPlan_angle (j : Fin 2) (reason : DeferReason) (p : Part) :
    (p.deferPlan j reason).angle = p.angle := by
  unfold Part.deferPlan
  dsimp only
  split <;> simp

@[simp] theorem beginShift_angle (j : Fin 2) (c : SelectorCtx) (p : Part) : (p.beginShift j c).angle = p.angle := by
  simp [Part.beginShift]

@[simp] theorem actionMatch_angle (j : Fin 2) (late : Bool) (p : Part) : (p.actionMatch j late).angle = p.angle := by
  unfold Part.actionMatch
  split
  · unfold Part.energiseMatch
    dsimp only
    split
    · simp
    · split <;> simp
  · unfold Part.releaseMatch
    dsimp only
    split
    · split <;> simp
    · split
      · split <;> simp
      · simp
  all_goals rfl

@[simp] theorem takePlan_angle (j : Fin 2) (c : SelectorCtx) (p : Part) : (p.takePlan j c).angle = p.angle := by
  unfold Part.takePlan
  split <;> simp

@[simp] theorem plan_angle (j : Fin 2) (up : Bool) (ref : Nat) (p : Part) : (p.plan j up ref).angle = p.angle := by
  unfold Part.plan
  split
  · simp [Part.deferAtPlan]
  · dsimp only
    split
    · simp [Part.deferAtPlan]
    · unfold Part.armPlan
      dsimp only
      split <;> simp

@[simp] theorem planMatch_angle (j : Fin 2) (late : Bool) (p : Part) : (p.planMatch j late).angle = p.angle := by
  unfold Part.planMatch
  dsimp only
  split
  case h_4 => split <;> simp
  all_goals simp

@[simp] theorem closeMatch_angle (j : Fin 2) (p : Part) : (p.closeMatch j).angle = p.angle := by
  unfold Part.closeMatch
  split
  · unfold Part.closeUp
    dsimp only
    split
    · simp
    · split <;> simp
  · unfold Part.closeDown
    dsimp only
    split <;> simp
  all_goals rfl

@[simp] theorem setupPass_angle (entry : Bool) (i k : Fin 4) (p : Part) : (p.setupPass entry i k).angle = p.angle := by
  simp [Part.setupPass]

@[simp] theorem anomaly_angle (i : Fin 4) (miss : Option (Fin 4)) (p : Part) : (p.anomaly i miss).angle = p.angle := by
  unfold Part.anomaly
  dsimp only
  split
  · rfl
  · split <;> simp

@[simp] theorem windowCheck_angle (i k : Fin 4) (p : Part) : (p.windowCheck i k).angle = p.angle := by
  unfold Part.windowCheck
  dsimp only
  split <;> simp

/-- A run of operations that leave the Angle Unit leaves it. -/
theorem foldl_angle {α : Type} (l : List α) (f : Part → α → Part) (hf : ∀ (p : Part) a, (f p a).angle = p.angle)
    (p : Part) : (l.foldl f p).angle = p.angle := by
  induction l generalizing p with
  | nil => rfl
  | cons a l ih => exact (ih _).trans (hf p a)

@[simp] theorem setupPasses_angle (p : Part) : p.setupPasses.angle = p.angle :=
  foldl_angle _ _ (fun p i => foldl_angle _ _ (fun p k => setupPass_angle true i k p) p) p

/-! ## A change of the sync state (R22, R65) -/

/-- After a change of its context, a phaser is under control only as the new context is. -/
theorem changePhaser_driven (i : Fin 4) (c : PhaserCtx) (p : Part)
    (h : (vget (p.changePhaser i c).phasers i).state.driven = true) : c.state.driven = true := by
  obtain ⟨q, hq, e⟩ := changePhaser_stored i c p
  rw [e] at h
  have stored := (q.endTracking_outward i _ _).driven i h
  rwa [hq.phasers, vget_vset_same] at stored

/-- A dropped phaser is not under control (R65). -/
theorem dropPhaser_not_driven (i : Fin 4) (p : Part) : (vget (p.dropPhaser i).phasers i).state.driven = false := by
  unfold Part.dropPhaser
  dsimp only
  split
  · exact Bool.eq_false_iff.mpr fun h => Bool.noConfusion (changePhaser_driven i _ p h)
  · next h => exact Bool.eq_false_iff.mpr h

theorem allPhasers_mem (i : Fin 4) : i ∈ allPhasers := by
  revert i
  decide

/-- With every phaser dropped none is under control (R65). -/
theorem dropPhasers_not_driven (i : Fin 4) (p : Part) : (vget p.dropPhasers.phasers i).state.driven = false := by
  have key : ∀ (l : List (Fin 4)) (p : Part), i ∈ l →
      (vget (l.foldl (fun p i => p.dropPhaser i) p).phasers i).state.driven = false := by
    intro l
    induction l with
    | nil => intro p h; cases h
    | cons a l ih =>
      intro p h
      rcases List.mem_cons.mp h with rfl | h
      · refine Bool.eq_false_iff.mpr fun hd => ?_
        have later := (Part.Outward.foldl l _ (fun p i => p.dropPhaser_outward i) (p.dropPhaser i)).driven i hd
        rw [dropPhaser_not_driven] at later
        cases later
      · exact ih _ h
  exact key allPhasers p (allPhasers_mem i)

/-- Leaving CYCLE_LOCKED leaves no phaser under control (R22, R65). -/
theorem leaveCycle_not_driven (i : Fin 4) (p : Part) : (vget p.leaveCycle.phasers i).state.driven = false := by
  refine Bool.eq_false_iff.mpr fun h => ?_
  have rest : p.dropPhasers.Still p.leaveCycle :=
    ((Part.dropSelectors_outward _).toStill.trans (Part.clearPasses_still _)).trans (Part.Still.withExamineOwed _ 0)
  have := rest.driven i h
  rw [dropPhasers_not_driven] at this
  cases this

@[simp] theorem writeAngle_phasers (p : Part) : p.writeAngle.phasers = p.phasers := rfl

/-- Out of CYCLE_LOCKED no phaser is under control. -/
theorem changeSync_not_driven (new : Sync) (p : Part) (hold : p.angle.sync = .cycleLocked) (hnew : new ≠ .cycleLocked)
    (i : Fin 4) : (vget (p.changeSync new).phasers i).state.driven = false := by
  have left : (p.changeSync new).phasers =
      (Part.leaveCycle ((Part.cancelOnLeaving .cycleLocked { p with angle.sync := new }).ceaseSync new)).phasers := by
    unfold Part.changeSync
    simp only [hold, hnew, Ne.symm hnew, if_true, if_false, reduceCtorEq, writeAngle_phasers, Part.setCause_phasers]
  rw [left, leaveCycle_not_driven]

/-- A change of the sync state keeps control under cycle lock: out of CYCLE_LOCKED every phaser is dropped, and outside
it no phaser is under control. -/
theorem changeSync_locked (new : Sync) (p : Part) (hp : p.DrivenLocked) : (p.changeSync new).DrivenLocked := by
  by_cases hold : p.angle.sync = .cycleLocked
  case neg => exact fun i hi => absurd (hp i ((p.changeSync_still new).driven i hi)) hold
  by_cases hnew : new = .cycleLocked
  case pos => exact (steady_of_still (p.changeSync_still new) (by simp [Part.changeSync, hold, hnew])).locked hp
  case neg => exact fun i hi => Bool.noConfusion ((changeSync_not_driven new p hold hnew i).symm.trans hi)

/-! ## Marks, stalls and the loss of a lock (R7, R10 to R14) -/

/-- A change of the Angle Unit beside the sync state. -/
theorem steady_withAngle (p : Part) (g : AngleUnit) (h : g.sync = p.angle.sync) : Steady p { p with angle := g } :=
  ⟨h, fun _ hd => hd⟩

theorem requestMark_steady (p : Part) : Steady p p.requestMark := steady_of_still p.requestMark_still (by simp)

theorem loseCycle_locked (p : Part) (h : p.DrivenLocked) : p.loseCycle.DrivenLocked :=
  (requestMark_steady _).locked (changeSync_locked _ _ ((steady_withAngle p _ rfl).locked h))

theorem gainCycle_locked (p : Part) (h : p.DrivenLocked) : p.gainCycle.DrivenLocked :=
  (requestMark_steady _).locked (changeSync_locked _ _ ((steady_withAngle p _ rfl).locked h))

theorem raise_steady (k : Kind) (u : Unit15) (d : Detail) (b : Bool) (p : Part) : Steady p (p.raise k u d b) :=
  steady_of_outward (p.raise_outward k u d b)

theorem markAnomaly_locked (p : Part) (h : p.DrivenLocked) : p.markAnomaly.DrivenLocked := by
  have counted := (steady_withAngle p { p.angle with anomalyCount := min (p.angle.anomalyCount + 1) 2 } rfl).locked h
  unfold Part.markAnomaly
  dsimp only
  split
  · exact loseCycle_locked _ ((raise_steady _ _ _ _ _).locked counted)
  · exact counted

theorem markCheckCrank_steady (p : Part) : Steady p p.markCheckCrank := by
  have counted := steady_withAngle p { p.angle with missCount := min (p.angle.missCount + 1) 8 } rfl
  unfold Part.markCheckCrank
  dsimp only
  split
  · exact steady_withAngle p _ rfl
  · split
    · exact (counted.trans (raise_steady .camMark syncUnit (detailOf 0) true _)).trans
        (steady_withAngle _ { Part.angle _ with noMarkRaised := true } rfl)
    · exact counted

theorem markCheck_locked (p : Part) (h : p.DrivenLocked) : p.markCheck.DrivenLocked := by
  unfold Part.markCheck
  split
  · exact (markCheckCrank_steady p).locked h
  · split
    · exact (steady_withAngle p _ rfl).locked h
    · exact markAnomaly_locked p h
  all_goals exact h

theorem markCandidate_locked (p : Part) (h : p.DrivenLocked) : p.markCandidate.DrivenLocked := by
  unfold Part.markCandidate
  split
  · split
    · exact h
    · exact (steady_withAngle p { p.angle with markSeen := true, markedA := true } rfl).locked h
  · split
    · exact (steady_withAngle p { p.angle with markSeen := true, markInRev := true, anomalyCount := 0 } rfl).locked h
    · exact markAnomaly_locked p h
  all_goals exact h

theorem markEdge_locked (t : Tick) (p : Part) (h : p.DrivenLocked) : (p.markEdge t).DrivenLocked := by
  unfold Part.markEdge
  dsimp only
  split
  · exact markCandidate_locked p h
  · exact h

theorem doStall_locked (p : Part) (h : p.DrivenLocked) : p.doStall.DrivenLocked := by
  unfold Part.doStall
  dsimp only
  split
  · exact changeSync_locked _ _ ((steady_withAngle _ _ rfl).locked ((raise_steady _ _ _ _ _).locked h))
  · exact changeSync_locked _ _ ((steady_withAngle _ _ rfl).locked h)

theorem loseCrank_locked (detail : Nat) (candidate : Option Nat) (p : Part) (h : p.DrivenLocked) :
    (p.loseCrank detail candidate).DrivenLocked :=
  changeSync_locked _ _ ((steady_withAngle _ _ rfl).locked ((raise_steady _ _ _ _ _).locked h))

/-! ## A phaser's update and the cam edges (R27, R33) -/

@[simp] theorem storePhaser_angle (i : Fin 4) (c : PhaserCtx) (p : Part) : (p.storePhaser i c).angle = p.angle :=
  (storePhaser_onOutputs i c p).angle

@[simp] theorem finishUpdate_angle (m : Mem) (i : Fin 4) (was : PhaserState) (o : UpdateOut) (p : Part) :
    (p.finishUpdate m i was o).angle = p.angle := by
  rw [(finishUpdate_outward m i was o p).angle, (reported_reports m i o _).frame]
  exact storePhaser_angle i o.ctx p

@[simp] theorem phaserUpdate_angle (m : Mem) (i : Fin 4) (phase : Int) (confirm : Bool) (p : Part) :
    (p.phaserUpdate m i phase confirm).angle = p.angle := by
  unfold Part.phaserUpdate
  dsimp only
  split <;> simp

@[simp] theorem learnReference_angle (i k : Fin 4) (angle : Nat) (p : Part) :
    (p.learnReference i k angle).angle = p.angle := by
  unfold Part.learnReference
  dsimp only
  split
  · simp [Part.writeRef]
  · split
    · rfl
    · split <;> simp

@[simp] theorem validEdge_angle (m : Mem) (i k : Fin 4) (angle : Nat) (phase : Int) (p : Part) :
    (p.validEdge m i k angle phase).angle = p.angle := by
  unfold Part.validEdge
  dsimp only
  split <;> simp

/-- The Cam Edge Unit acts in CYCLE_LOCKED alone, and leaves it to the Angle Unit. -/
theorem classify_locked (m : Mem) (i : Fin 4) (t : Tick) (p : Part) (h : p.DrivenLocked) :
    (p.classify m i t).DrivenLocked := by
  unfold Part.classify
  split
  · next hc =>
    refine locked_of_cycle (Eq.trans (congrArg AngleUnit.sync ?_) hc.1)
    dsimp only
    split
    · split
      · rfl
      · simp
    · split <;> simp
  · exact h

theorem camInput_locked (m : Mem) (input : Fin 4) (t : Tick) (p : Part) (h : p.DrivenLocked) :
    (p.camInput m input t).DrivenLocked := by
  have edge : (Part.classify m input t { p with clock := t }).DrivenLocked := classify_locked _ _ _ _ h
  unfold Part.camInput
  dsimp only
  split
  · exact markEdge_locked t _ edge
  · exact edge

/-! ## Matches (R16 to R19) -/

theorem requestMatch_steady (k : Fin 24) (x : Nat) (kind : MatchKind) (p : Part) : Steady p (p.requestMatch k x kind) :=
  steady_of_still (p.requestMatch_still k x kind) (by simp)

theorem adoptionMatch_steady (p : Part) : Steady p p.adoptionMatch :=
  (requestMatch_steady 22 p.cfg.adoptionAngle .cycle p).trans (steady_of_eq rfl rfl)

theorem handMatch_locked (k : Fin 24) (late : Bool) (p : Part) (h : p.DrivenLocked) : (p.handMatch k late).DrivenLocked := by
  unfold Part.handMatch
  split
  · exact (steady_of_still (p.windowCheck_still _ _) (by simp)).locked h
  split
  · dsimp only
    split
    · exact (steady_of_still (p.planMatch_still _ late) (by simp)).locked h
    · exact (steady_of_still (p.actionMatch_still _ late) (by simp)).locked h
    · exact (steady_of_still (p.closeMatch_still _) (by simp)).locked h
  split
  · exact (adoptionMatch_steady p).locked h
  · exact markCheck_locked _ ((requestMark_steady p).locked h)

theorem fire_locked (k : Fin 24) (late : Bool) (p : Part) (h : p.DrivenLocked) : (p.fire k late).DrivenLocked :=
  handMatch_locked k late _ ((steady_of_outward (p.cancelMatch_outward k)).locked h)

theorem expire_locked (k : Fin 24) (p : Part) (h : p.DrivenLocked) : (p.expire k).DrivenLocked := by
  unfold Part.expire
  split
  · exact fire_locked k false _ h
  all_goals exact h

/-! ## Adopted pages (R138 to R142) -/

theorem note_steady (k : NoteKind) (u : Unit15) (d : Detail) (p : Part) : Steady p (p.note k u d) :=
  steady_of_outward (p.note_outward k u d)

theorem cease_steady (k : Kind) (u : Unit15) (p : Part) : Steady p (p.cease k u) :=
  steady_of_outward (p.cease_outward k u)

theorem cancelMatch_steady (k : Fin 24) (p : Part) : Steady p (p.cancelMatch k) :=
  steady_of_outward (p.cancelMatch_outward k)

theorem changeSelector_steady (j : Fin 2) (c : SelectorCtx) (p : Part) : Steady p (p.changeSelector j c) :=
  steady_of_still (p.changeSelector_still j c) (by simp)

theorem requestLobe_steady (j : Fin 2) (lobe : Lobe) (p : Part) : Steady p (p.requestLobe j lobe) := by
  unfold Part.requestLobe
  dsimp only
  split
  · exact .refl p
  split
  · exact (cancelMatch_steady _ p).trans (changeSelector_steady _ _ _)
  · split
    · exact (cancelMatch_steady _ p).trans (changeSelector_steady _ _ _)
    · exact ⟨rfl, fun _ h => h⟩
  · exact ⟨rfl, fun _ h => h⟩

theorem adoptTargets_steady (pg : Nat → Word) (p : Part) : Steady p (p.adoptTargets pg) := by
  have stored : ∀ (p : Part) (v : Vector Demand 4), Steady p { p with demand := v } := fun _ _ => steady_of_eq rfl rfl
  unfold Part.adoptTargets
  dsimp only
  refine Steady.trans (Steady.trans (Steady.foldl _ _ (fun p i => ?_) p) (Steady.foldl _ _ (fun p j => ?_) _))
    (steady_of_outward (Part.askProbe_outward _ _))
  · exact Steady.ite ((stored p _).trans (note_steady _ _ _ _)) (stored p _)
  · exact requestLobe_steady j (lobeOf pg j) p

theorem adoptAngle_locked (w : Option MarkWindow) (p : Part) (h : p.DrivenLocked) : (p.adoptAngle w).DrivenLocked := by
  have taken : (if p.angle.locked = true then { p with angle.newWindow := some w }
      else { p with angle.window := w, angle.newWindow := none } : Part).DrivenLocked := by
    split
    · exact (steady_withAngle p { p.angle with newWindow := some w } rfl).locked h
    · exact (steady_withAngle p { p.angle with window := w, newWindow := none } rfl).locked h
  unfold Part.adoptAngle
  dsimp only
  generalize (if p.angle.locked = true then ({ p with angle.newWindow := some w } : Part)
    else { p with angle.window := w, angle.newWindow := none }) = q at taken ⊢
  split
  · exact ite_locked (doStall_locked _ ((steady_withAngle q _ rfl).locked taken))
      ((steady_withAngle q { q.angle with stall := some _ } rfl).locked taken)
  · exact taken

theorem adoptCams_steady (p : Part) : Steady p p.adoptCams := by
  have stored : ∀ (p : Part) (v : Vector CamPhaser 4), Steady p { p with cams := v } := fun _ _ => steady_of_eq rfl rfl
  have cams := Steady.foldl allPhasers
    (fun p i => ((Part.cease .phaseImplausible (phaserUnit i) { p with cams := vset p.cams i { vget p.cams i with
      anomaly := 0, misses := 0, strays := 0, confirm := 0, drift := 0 } }).cease .referenceDrift (phaserUnit i)))
    (fun p i => (stored p _).trans ((cease_steady _ _ _).trans (cease_steady _ _ _))) p
  have cancelled : ∀ p : Part, Steady p
      (allPhasers.foldl (fun p i => allPhasers.foldl (fun p k => p.cancelMatch (windowSlot i k)) p) p) :=
    Steady.foldl _ _ fun p i => Steady.foldl _ _ (fun p k => cancelMatch_steady _ p) p
  unfold Part.adoptCams
  dsimp only
  generalize List.foldl _ p allPhasers = q at cams ⊢
  exact Steady.ite ((cams.trans (cancelled q)).trans (steady_of_still (Part.setupPasses_still _) (by simp))) cams

theorem adoptHolds_steady (i : Fin 4) (p : Part) : Steady p (p.adoptHolds i) := by
  refine Steady.foldl _ _ (fun p b => ?_) p
  dsimp only
  split
  · exact .refl p
  · exact ⟨rfl, fun _ h => h⟩

/-- A context at a configuration adoption keeps its state (R49). -/
theorem steady_adoptContext (i : Fin 4) (stroke : Nat) (d : Vector Demand 4) (p : Part) :
    Steady p { p with demand := d, phasers := vset p.phasers i ((vget p.phasers i).adopt stroke) } where
  sync := rfl
  driven := fun l h => by
    by_cases hl : l = i
    · subst hl; simpa [PhaserCtx.adopt] using h
    · simpa [vget_vset_other _ _ _ _ hl] using h

theorem adoptPhasers_steady (p : Part) : Steady p p.adoptPhasers :=
  Steady.foldl _ _ (fun p i => (((steady_adoptContext i _ _ p).trans (cease_steady _ _ _)).trans
    (cease_steady _ _ _)).trans (adoptHolds_steady i _)) p

theorem adoptSelectors_steady (p : Part) : Steady p p.adoptSelectors := by
  have stored : ∀ (p : Part) (v : Vector SelectorCtx 2), Steady p { p with selectors := v } :=
    fun _ _ => steady_of_eq rfl rfl
  refine Steady.foldl _ _ (fun p j => ?_) p
  exact Steady.ite ((stored p _).trans ((cancelMatch_steady _ _).trans (requestMatch_steady _ _ _ _))) (stored p _)

theorem adoptFaults_steady (p : Part) : Steady p p.adoptFaults := by
  have stored : ∀ p : Part, Steady p (allUnits.foldl (fun p u =>
      { p with latched := vset p.latched u (p.cfg.keepLatched (vget p.latched u) (vget p.present u)) }) p) :=
    Steady.foldl _ _ fun _ _ => steady_of_eq rfl rfl
  exact ((stored p).trans (steady_of_outward (Part.handOver_outward .summary _ _))).trans
    (steady_of_outward (Part.judgeReleases_outward _))

theorem adoptConfig_locked (c : Configuration) (p : Part) (h : p.DrivenLocked) : (p.adoptConfig c).DrivenLocked := by
  have angle : (Part.adoptAngle c.window { p with config := some c }).DrivenLocked := adoptAngle_locked _ _ h
  unfold Part.adoptConfig Part.requestAdoption
  dsimp only
  generalize Part.adoptAngle c.window { p with config := some c } = q at angle ⊢
  exact (((((adoptCams_steady q).trans (adoptPhasers_steady _)).trans (adoptSelectors_steady _)).trans
    (adoptFaults_steady _)).trans (requestMatch_steady _ _ _ _)).locked angle

theorem clearOne_steady (k : Kind) (u : Unit15) (p : Part) : Steady p (p.clearOne k u) := by
  unfold Part.clearOne
  split
  · exact .refl p
  split
  · exact note_steady _ _ _ p
  · exact ⟨rfl, fun _ h => h⟩

theorem untrip_steady (n : Fin 6) (p : Part) : Steady p (p.untrip n) := by
  unfold Part.untrip
  dsimp only
  split
  · exact steady_of_outward ((p.putChannel_outward n _).trans (Part.applyRequest_outward n _))
  · exact .refl p

theorem clearFaults_steady (mask : Word) (p : Part) : Steady p (p.clearFaults mask) := by
  have kinds : ∀ (p : Part) (k : Kind), Steady p
      (if bitOf mask k.code = true then allUnits.foldl (fun p u => p.clearOne k u) p else p) := by
    intro p k
    split
    · exact Steady.foldl _ _ (fun p u => clearOne_steady k u p) p
    · exact .refl p
  exact (((Steady.foldl allKinds _ kinds p).trans (steady_of_outward (Part.handOver_outward .summary _ _))).trans
    (Steady.foldl _ _ (fun p n => untrip_steady n p) _)).trans (steady_of_outward (Part.judgeReleases_outward _))

theorem answerOffer_locked (m : Mem) (o : Offer) (p : Part) (h : p.DrivenLocked) : (p.answerOffer m o).DrivenLocked := by
  have answered : ∀ (q : Part) (v : Verdict) (d : Word), q.DrivenLocked → (q.answer o.seq v d).DrivenLocked :=
    fun _ _ _ hq => hq
  unfold Part.answerOffer
  dsimp only
  refine answered _ _ _ ?_
  split
  · split
    · exact (clearFaults_steady _ _).locked (adoptConfig_locked _ p h)
    · exact (clearFaults_steady _ _).locked ((adoptTargets_steady _ p).locked h)
  · exact h

theorem adoptionPoint_locked (m : Mem) (p : Part) (h : p.DrivenLocked) : (p.adoptionPoint m).DrivenLocked := by
  unfold Part.adoptionPoint
  split
  · exact answerOffer_locked m _ p h
  · exact h

/-! ## Teeth and crank edges (R1 to R9) -/

theorem capture_locked (m : Mem) (event : Nat) (p : Part) (h : p.DrivenLocked) : (p.capture m event).DrivenLocked := by
  unfold Part.capture
  split <;> exact h

theorem toothEvent_locked (m : Mem) (p : Part) (h : p.DrivenLocked) : (p.toothEvent m).DrivenLocked := by
  have written : p.writeAngle.DrivenLocked := h
  exact capture_locked m 0 _ (ite_locked (adoptionPoint_locked m _ written) written)

theorem wrappedCheck_locked (p : Part) (h : p.DrivenLocked) : p.wrappedCheck.DrivenLocked := by
  unfold Part.wrappedCheck
  split
  · split
    · exact markCheck_locked p h
    · exact h
  · exact h

theorem takeWindow_steady (p : Part) : Steady p p.takeWindow := by
  unfold Part.takeWindow
  split
  · exact (steady_withAngle p { p.angle with
      window := _, newWindow := none, markSeen := false, missCount := 0, anomalyCount := 0 } rfl).trans
      ((cancelMatch_steady 23 _).trans (requestMark_steady _))
  · exact .refl p

theorem toothZero_locked (arrived : Sync) (p : Part) (h : p.DrivenLocked) : (p.toothZero arrived).DrivenLocked := by
  have angle : ∀ (q : Part) (g : AngleUnit), g.sync = q.angle.sync → q.DrivenLocked →
      ({ q with angle := g } : Part).DrivenLocked := fun q g hg hq => (steady_withAngle q g hg).locked hq
  have checked := wrappedCheck_locked p h
  have gained : (if p.wrappedCheck.angle.markedA = true ∧ p.wrappedCheck.angle.window.isSome = true
      then p.wrappedCheck.gainCycle else p.wrappedCheck).DrivenLocked := ite_locked (gainCycle_locked _ checked) checked
  have ended := angle _ { Part.angle _ with markInRev := false } rfl
    (ite_locked (c := arrived = .crankLocked) (angle _ { Part.angle _ with markedA := false } rfl gained) checked)
  exact ite_locked ((takeWindow_steady _).locked ended) ended

theorem fireLate_locked (before : Vector MatchSlot 24) (p : Part) (h : p.DrivenLocked) :
    (p.fireLate before).DrivenLocked := by
  refine foldl_locked _ _ (fun p k hp => ?_) p h
  split
  · exact fire_locked k true p hp
  · exact hp

theorem armWaiting_steady (before : Vector MatchSlot 24) (p : Part) : Steady p (p.armWaiting before) := by
  refine Steady.foldl _ _ (fun p k => ?_) p
  split
  · exact ⟨rfl, fun _ h => h⟩
  · exact .refl p

theorem fireDue_locked (before : Vector MatchSlot 24) (p : Part) (h : p.DrivenLocked) :
    (p.fireDue before).DrivenLocked := by
  refine foldl_locked _ _ (fun p k hp => ?_) p h
  split
  · exact fire_locked k false p hp
  · exact hp

@[simp] theorem toSpeed_sync (g : AngleUnit) : g.toSpeed.sync = g.sync := by
  unfold AngleUnit.toSpeed
  split <;> rfl

theorem tooth_locked (m : Mem) (t : Tick) (i : Nat) (p : Part) (h : p.DrivenLocked) : (p.tooth m t i).DrivenLocked := by
  have arrived : ({ p with angle := (p.angle.toTooth t i).toSpeed } : Part).DrivenLocked :=
    (steady_withAngle p (p.angle.toTooth t i).toSpeed (toSpeed_sync _)).locked h
  unfold Part.tooth
  dsimp only
  refine fireDue_locked _ _ ((armWaiting_steady _ _).locked (fireLate_locked _ _ (toothEvent_locked m _ ?_)))
  split
  · exact toothZero_locked _ _ arrived
  · exact arrived

theorem recordEdge_steady (t : Tick) (p : Part) : Steady p (p.recordEdge t) := steady_withAngle p _ rfl

theorem seekEdge_locked (m : Mem) (t : Tick) (i ip : Nat) (p : Part) (h : p.DrivenLocked) :
    (p.seekEdge m t i ip).DrivenLocked := by
  have searched := (steady_withAngle p { p.angle with prev := some i, candidate := candidateOf i ip } rfl).locked h
  unfold Part.seekEdge
  split
  · split
    · exact toothEvent_locked m _ ((requestMark_steady _).locked
        (changeSync_locked _ _ ((steady_withAngle p _ rfl).locked h)))
    · exact searched
  · exact searched

theorem lockedEdge_locked (m : Mem) (t : Tick) (i ip : Nat) (p : Part) (h : p.DrivenLocked) :
    (p.lockedEdge m t i ip).DrivenLocked := by
  unfold Part.lockedEdge
  split
  · exact loseCrank_locked _ _ _ ((steady_withAngle p _ rfl).locked h)
  · exact tooth_locked m t i p h

theorem acceptEdge_locked (m : Mem) (t : Tick) (p : Part) (h : p.DrivenLocked) : (p.acceptEdge m t).DrivenLocked := by
  have recorded := (recordEdge_steady t p).locked h
  have first : ∀ x, ({ p.recordEdge t with angle.prev := x } : Part).DrivenLocked := fun x =>
    (steady_withAngle _ { (p.recordEdge t).angle with prev := x } rfl).locked recorded
  unfold Part.acceptEdge
  dsimp only
  split
  · exact changeSync_locked _ _ ((steady_withAngle _ _ rfl).locked recorded)
  · split
    · exact seekEdge_locked _ _ _ _ _ recorded
    · exact first _
  all_goals
    split
    · exact lockedEdge_locked _ _ _ _ _ recorded
    · exact first _

theorem crankEdge_locked (m : Mem) (t : Tick) (p : Part) (h : p.DrivenLocked) : (p.crankEdge m t).DrivenLocked := by
  unfold Part.crankEdge
  dsimp only
  split
  · unfold Part.rejectEdge
    split
    · exact (note_steady _ _ _ _).locked h
    · exact h
  · exact acceptEdge_locked m t _ h

theorem abandonEntry_steady (p : Part) : Steady p p.abandonEntry := by
  have withdrawn := steady_of_outward p.withdrawDischarge_outward
  unfold Part.abandonEntry
  generalize p.withdrawDischarge = q at withdrawn ⊢
  exact withdrawn.trans (steady_of_eq rfl rfl)

theorem crankInput_locked (m : Mem) (t : Tick) (p : Part) (h : p.DrivenLocked) : (p.crankInput m t).DrivenLocked := by
  unfold Part.crankInput
  split
  · exact crankEdge_locked m t _ ((abandonEntry_steady p).locked h)
  · exact crankEdge_locked m t p h

theorem stallExpiry_locked (p : Part) (h : p.DrivenLocked) : p.stallExpiry.DrivenLocked := by
  unfold Part.stallExpiry
  split
  · exact doStall_locked _ h
  · exact h

theorem standbyTick_locked (m : Mem) (t : Tick) (p : Part) (h : p.DrivenLocked) : (p.standbyTick m t).DrivenLocked := by
  have conditions : (Part.conditionsTick m { p with clock := t }).DrivenLocked := by
    unfold Part.conditionsTick Part.ageConditions Part.takeConditions
    dsimp only
    split
    · split
      · exact (raise_steady _ _ _ _ _).locked h
      · exact h
    · exact (cease_steady _ _ _).locked h
  have adopted := ite_locked (c := (Part.conditionsTick m { p with clock := t }).angle.sync = .cycleLocked)
    conditions (adoptionPoint_locked m _ conditions)
  exact ite_locked adopted (capture_locked m 1 _ adopted)

/-! ## The host port, the records and the resets -/

/-- The machine right after any reset drives no phaser. -/
theorem afterReset_locked (refs : Vector RefEntry 16) (holds : Vector HoldEntry 32) (w : Word) (cause : WakeCause)
    (line : Bool) : (Part.afterReset refs holds w cause line).DrivenLocked := by
  intro i hi
  simp [Part.afterReset, PhaserCtx.reset, PhaserState.driven] at hi

theorem retain_locked (s : State) : s.retain.part.DrivenLocked := by
  intro i hi
  simp [State.retain, Part.afterReset, PhaserCtx.reset, PhaserState.driven] at hi

theorem requestRetention_steady (p : Part) : Steady p p.requestRetention := by
  have causes : Steady p (p.setCause .retainRefused) := steady_of_eq rfl rfl
  have entering : Steady p { p with power.state := .entering } := steady_of_eq rfl rfl
  unfold Part.requestRetention
  split
  · exact causes.trans (note_steady _ _ _ _)
  · exact entering.trans (steady_of_outward (Part.startDischarge_outward _))

theorem writeRegister_steady (reg : Fin 8) (v : Word) (p : Part) : Steady p (p.writeRegister reg v) := by
  have halted : Steady p { p with xu.haltLearn := bitOf v 1 } := steady_of_eq rfl rfl
  unfold Part.writeRegister
  split
  · exact Steady.ite (halted.trans (requestRetention_steady _)) halted
  · exact Steady.ite (steady_of_eq rfl rfl) (.refl p)
  all_goals exact steady_of_eq rfl rfl

/-- The Exchange Unit's decision on a write reaches neither the Angle Unit nor a phaser. -/
theorem decideWrite_steady (a : Nat) (v : Word) (s : State) : Steady s.part (s.decideWrite a v).part := by
  unfold State.decideWrite
  split
  · exact .refl _
  split
  · unfold State.writeOffer
    split
    · exact .refl _
    · have dropped : Steady s.part s.part.dropOffer := by
        unfold Part.dropOffer
        split
        · exact ⟨rfl, fun _ h => h⟩
        · exact .refl _
      dsimp only
      split
      · exact dropped
      · exact dropped.trans ⟨rfl, fun _ h => h⟩
  split
  · unfold State.writeSnapshot
    dsimp only
    repeat' split
    all_goals exact steady_of_eq rfl rfl
  split
  · unfold State.writeNoteState
    dsimp only
    repeat' split
    all_goals exact steady_of_eq rfl rfl
  split
  · unfold State.writeLearned
    dsimp only
    repeat' split
    all_goals exact steady_of_eq rfl rfl
  split <;> exact steady_of_eq rfl rfl

theorem portWrite_steady (a : Nat) (v : Word) (s : State) : Steady s.part (s.portWrite a v).part := by
  unfold State.portWrite
  split
  · exact .refl _
  split
  · dsimp only
    exact writeRegister_steady _ v s.part
  split
  · exact .refl _
  · exact decideWrite_steady a v { s with held := none }

theorem complete_locked (r : Record) (s : State) (h : s.part.DrivenLocked) : (s.complete r).part.DrivenLocked := by
  unfold State.complete
  split
  · dsimp only
    unfold Part.examineOffer
    split
    · exact adoptionPoint_locked _ _ h
    · exact h
  all_goals exact h

theorem releaseHeld_steady (r : Record) (s : State) : Steady s.part (s.releaseHeld r).part := by
  unfold State.releaseHeld
  split
  · split
    · unfold State.finishAccess
      split
      · exact .refl _
      · exact decideWrite_steady _ _ { s with held := none }
    · exact .refl _
  · exact .refl _

theorem writeRecordWord_locked (s : State) (h : s.part.DrivenLocked) : s.writeRecordWord.part.DrivenLocked := by
  unfold State.writeRecordWord
  split
  · exact h
  · dsimp only
    split
    · exact h
    · exact (releaseHeld_steady _ _).locked (complete_locked _ _ h)

/-! ## The step -/

/-- An event that keeps control under cycle lock in the units keeps it in the machine. -/
theorem event_locked (f : Mem → Part → Part) (s : State) (h : s.part.DrivenLocked)
    (hf : (f s.mem s.part).DrivenLocked) : (s.event f).part.DrivenLocked := by
  unfold State.event
  split
  · exact hf
  · exact h

/-- An outward event keeps control under cycle lock. -/
theorem outwardEvent_locked (f : Mem → Part → Part) (s : State) (h : s.part.DrivenLocked)
    (hf : s.part.Outward (f s.mem s.part)) : (s.event f).part.DrivenLocked :=
  event_locked f s h ((steady_of_outward hf).locked h)

/-- The state a command leads to. -/
theorem next_locked {u t : State} (e : (Host.Outcome.next u : Host.Outcome State Fault Refusal) = .next t)
    (h : u.part.DrivenLocked) : t.part.DrivenLocked := Host.Outcome.next.inj e ▸ h

theorem execCrankEdge_locked (tick : Tick) (s t : State) (h : s.part.DrivenLocked)
    (e : execCrankEdge tick s = .next t) : t.part.DrivenLocked := by
  refine next_locked e ?_
  split
  · exact afterReset_locked _ _ _ _ _
  · exact event_locked _ s h (crankInput_locked _ tick _ h)

theorem execWakeLine_locked (s t : State) (h : s.part.DrivenLocked) (e : execWakeLine s = .next t) :
    t.part.DrivenLocked := by
  refine next_locked e ?_
  split
  · exact h
  · split
    · exact afterReset_locked _ _ _ _ _
    · exact (abandonEntry_steady _).locked h
    · exact h

theorem execWakeTimerExpiry_locked (s t : State) (h : s.part.DrivenLocked) (e : execWakeTimerExpiry s = .next t) :
    t.part.DrivenLocked := by
  refine next_locked e ?_
  split
  · exact afterReset_locked _ _ _ _ _
  · exact h

theorem execRecordWordWrite_locked (s t : State) (h : s.part.DrivenLocked) (e : execRecordWordWrite s = .next t) :
    t.part.DrivenLocked := by
  refine next_locked e ?_
  split
  · exact writeRecordWord_locked s h
  · exact h

theorem execDischargeCheck_locked (currents : Vector Nat 6) (s t : State) (h : s.part.DrivenLocked)
    (e : execDischargeCheck currents s = .next t) : t.part.DrivenLocked := by
  refine next_locked e ?_
  rcases s.dischargeCheck_cases currents with ⟨_, _, _, e'⟩ | e' <;> rw [e']
  · exact retain_locked s
  · exact h

/-- Every command keeps control under cycle lock. -/
theorem exec_locked (c : Instr) (s t : State) (h : s.part.DrivenLocked) (e : exec c s = .next t) :
    t.part.DrivenLocked := by
  have port : ∀ a v, (s.portWrite a v).part.DrivenLocked := fun a v => (portWrite_steady a v s).locked h
  cases c with
  | powerOnReset => exact next_locked e (afterReset_locked _ _ _ _ _)
  | resetLine => exact next_locked e (afterReset_locked _ _ _ _ _)
  | crankEdge tick => exact execCrankEdge_locked tick s t h e
  | stall => exact next_locked e (event_locked _ s h (stallExpiry_locked _ h))
  | camEdge input tick => exact next_locked e (event_locked _ s h (camInput_locked _ input tick _ h))
  | matchExpiry slot => exact next_locked e (event_locked _ s h (expire_locked slot _ h))
  | standbyTick tick => exact next_locked e (event_locked _ s h (standbyTick_locked _ tick _ h))
  | pwmPeriodStart out => exact next_locked e (outwardEvent_locked _ s h (Part.periodStart_outward _ _))
  | onTimeEnd out mean => exact next_locked e (outwardEvent_locked _ s h (Part.onTimeEnd_outward _ mean _))
  | overCurrent out current => exact next_locked e (outwardEvent_locked _ s h (Part.overCurrent_outward out current _))
  | peakTimerExpiry sel => exact next_locked e (outwardEvent_locked _ s h (Part.peakEnd_outward _ _))
  | selectorCurrentCheck sel mean => exact next_locked e (outwardEvent_locked _ s h (Part.currentCheck_outward _ mean _))
  | dipSample sel sample => exact next_locked e (outwardEvent_locked _ s h (Part.dipSample_outward sel sample _))
  | probeJudgement carried => exact next_locked e (outwardEvent_locked _ s h (Part.probeEnd_outward carried _))
  | stageTemperatureSample temp =>
    exact next_locked e (outwardEvent_locked _ s h (Part.temperatureSample_outward temp _))
  | driverStatusRefresh => exact next_locked e (outwardEvent_locked _ s h (Part.handOver_outward _ _ _))
  | dischargeCheck currents => exact execDischargeCheck_locked currents s t h e
  | wakeLine => exact execWakeLine_locked s t h e
  | wakeTimerExpiry => exact execWakeTimerExpiry_locked s t h e
  | recordWordWrite => exact execRecordWordWrite_locked s t h e
  | accessAbandoned => exact next_locked e h
  | exchangeMemoryWrite addr value => exact next_locked e (port _ _)
  | learnedTableWrite off value => exact next_locked e (port _ _)
  | offer page seq => exact next_locked e (port _ _)
  | withdrawOffer page => exact next_locked e (port _ _)
  | noteFree slot => exact next_locked e (port _ _)
  | snapshotRequest => exact next_locked e (port _ _)
  | snapshotRelease => exact next_locked e (port _ _)
  | retainRequest halt => exact next_locked e (port _ _)
  | haltLearnWrite halt => exact next_locked e (port _ _)
  | protectedWriteClear others => exact next_locked e (port _ _)
  | attnClear mask => exact next_locked e (port _ _)
  | attnenWrite value => exact next_locked e (port _ _)
  | registerWrite reg value => exact next_locked e (port _ _)
  | resetLineDeasserted => exact next_locked e h

/-- Settles O5: a change of the sync state out of CYCLE_LOCKED drops every phaser, only a phaser's update in
CYCLE_LOCKED brings one under control, and every other operation is steady or ends in a change of the sync state. -/
theorem everyStepKeepsControlUnderCycleLock : Obligations.EveryStepKeepsControlUnderCycleLock := by
  intro s t h e
  unfold step at e
  split at e
  · refine next_locked e ?_
    unfold State.idle
    split <;> exact h
  · next c cs _ => exact exec_locked c { s with pending := cs } t h e

end Sys2Proof.Machine.PhaserSequencing
end

section
/-! SUPPORT. The action match (O47): what a note, a deferral, a change of a selector and a hold of a head leave behind,
and from them the shift that begins and the plan that is cancelled. -/

namespace Sys2Proof.Machine.PhaserSequencing

/-! ## Notes stand in the list (R146) -/

theorem findNote_some {notes : Vector NoteSlot 16} {k : NoteKind} {u : Unit15} {m : Fin 16}
    (h : findNote notes k u = some m) :
    (vget notes m).filled = true ∧ (vget notes m).kind = k ∧ (vget notes m).unit = u := by
  simpa using List.find?_some h

theorem findFree_none {notes : Vector NoteSlot 16} (h : findFree notes = none) (m : Fin 16) :
    (vget notes m).filled = true := by
  have found := List.find?_eq_none.mp h m (by revert m; decide)
  simpa using found

/-- A note that is handed over stands in the list, or the list is full and it is withheld. -/
theorem note_noted (k : NoteKind) (u : Unit15) (d : Detail) (p : Part) : (p.note k u d).xu.Noted k u d := by
  unfold Part.note
  split
  · next m h =>
    obtain ⟨filled, kind, unit⟩ := findNote_some h
    exact .inr ⟨m, by simp [Part.putNote, Part.handOver, filled, kind, unit]⟩
  · split
    · next m _ => exact .inr ⟨m, by simp [Part.putNote, Part.handOver]⟩
    · next h => exact .inl ⟨rfl, findFree_none h⟩

/-! ## A deferral (R95) -/

theorem deferPlan_selectors (j : Fin 2) (reason : DeferReason) (p : Part) :
    (p.deferPlan j reason).selectors =
      vset p.selectors j ((vget p.selectors j).deferred reason (p.selectorCfg j).deferLimit) := by
  unfold Part.deferPlan
  dsimp only
  split <;> simp

theorem deferPlan_phasers (j : Fin 2) (reason : DeferReason) (p : Part) :
    (p.deferPlan j reason).phasers = p.phasers := by
  unfold Part.deferPlan
  dsimp only
  split <;> simp

/-- The deferral that reaches the limit is noted with its reason. -/
theorem deferPlan_noted (j : Fin 2) (reason : DeferReason) (p : Part)
    (h : (vget p.selectors j).deferCount + 1 = (p.selectorCfg j).deferLimit) :
    (p.deferPlan j reason).xu.Noted .switchDeferred (selectorUnit j)
      { w9 := BitVec.ofNat 16 reason.code, w10 := 0 } := by
  have detail : detailOf reason.code = { w9 := BitVec.ofNat 16 reason.code, w10 := 0 } := by cases reason <;> rfl
  unfold Part.deferPlan
  dsimp only
  rw [if_pos ⟨by omega, h⟩, ← detail]
  exact note_noted _ _ _ _

theorem deferPlan_notes (j : Fin 2) (reason : DeferReason) (p : Part)
    (h : (vget p.selectors j).deferCount + 1 ≠ (p.selectorCfg j).deferLimit) :
    (p.deferPlan j reason).xu.notes = p.xu.notes := by
  unfold Part.deferPlan
  dsimp only
  rw [if_neg fun hc => h hc.2]

/-! ## A change of a selector (R87, R88) -/

/-- A selector's context is stored: the phasers, the notes, the slots and the clock stay, and an entry into another
state asks the output for what that state asks. -/
structure SelectorStored (j : Fin 2) (c : SelectorCtx) (p q : Part) : Prop where
  selectors : q.selectors = vset p.selectors j c
  phasers : q.phasers = p.phasers
  clock : q.clock = p.clock
  notes : q.xu.notes = p.xu.notes
  notesWithheld : q.xu.notesWithheld = p.xu.notesWithheld
  request : ∀ r, (vget p.selectors j).state ≠ c.state → p.entryRequest j c.state = some r →
    (vget q.channels (selectorOutput j)).request = r

theorem SelectorStored.written {j : Fin 2} {c : SelectorCtx} {p q : Part} (h : SelectorStored j c p q) :
    SelectorStored j c p (q.writeSelector j) :=
  ⟨h.selectors, h.phasers, h.clock, h.notes, h.notesWithheld, h.request⟩

/-- A change of a selector into any state but FAULTED stores its context. -/
theorem changeSelector_stored (j : Fin 2) (c : SelectorCtx) (p : Part) (hf : c.state ≠ .faulted) :
    SelectorStored j c p (p.changeSelector j c) := by
  have asked : Part.entryRequest { p with selectors := vset p.selectors j c } j c.state = p.entryRequest j c.state := rfl
  unfold Part.changeSelector
  dsimp only
  rw [asked]
  split
  · next same => exact ⟨rfl, rfl, rfl, rfl, rfl, fun _ hne _ => absurd same hne⟩
  refine SelectorStored.written ?_
  cases hr : p.entryRequest j c.state with
  | none => exact ⟨rfl, rfl, rfl, rfl, rfl, fun _ _ h => by rw [hr] at h; cases h⟩
  | some r =>
    have out := request_onOutputs (selectorOutput j) r { p with selectors := vset p.selectors j c }
    refine ⟨out.selectors, out.phasers, out.clock, out.notes, out.notesWithheld, fun r' _ h => ?_⟩
    rw [hr] at h
    cases h
    exact (request_request _ _ _ _).trans (if_pos rfl)

/-- What stands in the note list stands there after a change of a selector. -/
theorem SelectorStored.noted {j : Fin 2} {c : SelectorCtx} {p q : Part} (h : SelectorStored j c p q) {k : NoteKind}
    {u : Unit15} {d : Detail} (hn : p.xu.Noted k u d) : q.xu.Noted k u d := by
  unfold Exchange.Noted at hn ⊢
  rwa [h.notes, h.notesWithheld]

/-! ## The hold of a head (R59) -/

theorem takeHold_duty (c : PhaserCtx) : c.takeHold.duty = c.duty := by
  unfold PhaserCtx.takeHold
  split <;> rfl

/-- A hold enters neither PARKED nor FAULTED. -/
theorem takeHold_enters (c : PhaserCtx) :
    c.state = c.takeHold.state ∨ (c.takeHold.state ≠ .parked ∧ c.takeHold.state ≠ .faulted) := by
  unfold PhaserCtx.takeHold
  split
  · exact .inr ⟨PhaserState.noConfusion, PhaserState.noConfusion⟩
  all_goals exact .inl rfl

/-- A hold of one phaser stores its held context, and nothing goes to the outputs. -/
theorem holdPhaser_stored (i : Fin 4) (p : Part) :
    ContextStored i (vget p.phasers i).takeHold p (p.changePhaser i (vget p.phasers i).takeHold) := by
  obtain ⟨q, hq, e⟩ := changePhaser_stored i (vget p.phasers i).takeHold p
  rwa [e, endTracking_of_stay _ _ _ _ (takeHold_enters _)]

theorem intake_ne_exhaust (j : Fin 2) : intakeOf j ≠ exhaustOf j := by revert j; decide

theorem headOf_eq (i : Fin 4) (j : Fin 2) (h : headOf i = j) : i = intakeOf j ∨ i = exhaustOf j := by
  revert i j; decide

/-- A hold of a head holds both its phasers and leaves the selectors and the outputs. -/
theorem holdHead_holds (j : Fin 2) (p : Part) :
    (p.holdHead j).selectors = p.selectors ∧ (p.holdHead j).channels = p.channels ∧
      ∀ i, headOf i = j → vget (p.holdHead j).phasers i = (vget p.phasers i).takeHold := by
  have intake := holdPhaser_stored (intakeOf j) p
  unfold Part.holdHead
  dsimp only
  generalize p.changePhaser (intakeOf j) (vget p.phasers (intakeOf j)).takeHold = q at intake ⊢
  have exhaust := holdPhaser_stored (exhaustOf j) q
  have other : vget q.phasers (exhaustOf j) = vget p.phasers (exhaustOf j) := by
    rw [intake.phasers, vget_vset_other _ _ _ _ (intake_ne_exhaust j).symm]
  refine ⟨exhaust.selectors.trans intake.selectors, (exhaust.channels (takeHold_duty _)).trans
    (intake.channels (takeHold_duty _)), fun i hi => ?_⟩
  rw [exhaust.phasers, other, intake.phasers]
  rcases headOf_eq i j hi with rfl | rfl
  · rw [vget_vset_other _ _ _ _ (intake_ne_exhaust j), vget_vset_same]
  · rw [vget_vset_same]

/-! ## The request for the window-close match (R17) -/

theorem requestMatch_frame (k : Fin 24) (x : Nat) (kind : MatchKind) (p : Part) :
    p.requestMatch k x kind = { p with slots := (p.requestMatch k x kind).slots } := by
  unfold Part.requestMatch
  split <;> rfl

/-- In CYCLE_LOCKED a cycle match asked for is placed at once. -/
theorem requestMatch_slot (k : Fin 24) (x : Nat) (p : Part) (h : p.angle.sync = .cycleLocked) :
    vget (p.requestMatch k x .cycle).slots k = p.angle.place p.clock x .cycle := by
  simp [Part.requestMatch, h, Sync.serves]

/-! ## A shift begins (R96, R97) -/

/-- The solenoid is switched: the selector takes the shift's context, its output the request of the state entered, the
phasers of the head are held, and the window-close match is placed. -/
theorem beginShift_begins (j : Fin 2) (c : SelectorCtx) (r : Request) (p : Part) (hf : c.state ≠ .faulted)
    (hne : (vget p.selectors j).state ≠ c.state) (hr : p.entryRequest j c.state = some r)
    (hs : p.angle.sync = .cycleLocked) :
    vget (p.beginShift j c).selectors j = c ∧ (vget (p.beginShift j c).channels (selectorOutput j)).request = r ∧
      (∀ i, headOf i = j → vget (p.beginShift j c).phasers i = (vget p.phasers i).takeHold) ∧
      vget (p.beginShift j c).slots (closeSlot j) = (p.beginShift j c).angle.place p.clock c.wc .cycle := by
  have stored := changeSelector_stored j c p hf
  have angle := changeSelector_angle j c p
  unfold Part.beginShift
  dsimp only
  generalize p.changeSelector j c = q at stored angle ⊢
  obtain ⟨selectors, channels, held⟩ := holdHead_holds j q
  have clock : (q.holdHead j).clock = p.clock := (q.holdHead_outward j).clock.trans stored.clock
  have sync : (q.holdHead j).angle.sync = .cycleLocked := by rw [holdHead_angle, angle, hs]
  refine ⟨?_, ?_, fun i hi => ?_, ?_⟩
  · rw [requestMatch_frame, selectors, stored.selectors, vget_vset_same]
  · rw [requestMatch_frame, channels, stored.request r hne hr]
  · rw [requestMatch_frame, held i hi, stored.phasers]
  · rw [requestMatch_slot _ _ _ sync, requestMatch_angle, clock]

/-! ## A plan is cancelled (R95 to R97) -/

/-- What a cancelled plan leaves: one deferral more with its note at the limit, the selector back in its resting state
with result CANCELLED or an owed plan owed again, and the phasers as they were. -/
structure Cancelled (p : Part) (j : Fin 2) (reason : DeferReason) (q : Part) : Prop where
  up : (vget p.selectors j).state = .armedUp →
    vget q.selectors j = { (vget p.selectors j).deferred reason (p.selectorCfg j).deferLimit with
      state := .low, lastShiftResult := .cancelled } ∧
    (vget q.channels (selectorOutput j)).request = .release
  down : (vget p.selectors j).state = .armedDown → (vget p.selectors j).owedPlan = false →
    vget q.selectors j = { (vget p.selectors j).deferred reason (p.selectorCfg j).deferLimit with
      state := .high, lastShiftResult := .cancelled }
  owed : (vget p.selectors j).state = .armedDown → (vget p.selectors j).owedPlan = true →
    vget q.selectors j = { (vget p.selectors j).deferred reason (p.selectorCfg j).deferLimit with
      releaseOwed := true, owedPlan := false }
  noted : (vget p.selectors j).deferCount + 1 = (p.selectorCfg j).deferLimit →
    q.xu.Noted .switchDeferred (selectorUnit j) { w9 := BitVec.ofNat 16 reason.code, w10 := 0 }
  notes : (vget p.selectors j).deferCount + 1 ≠ (p.selectorCfg j).deferLimit → q.xu.notes = p.xu.notes
  phasers : q.phasers = p.phasers

/-- A deferral followed by a change of the selector counts one deferral and leaves the phasers. -/
theorem deferred_stored (j : Fin 2) (reason : DeferReason) (c : SelectorCtx) (p q : Part)
    (h : SelectorStored j c (p.deferPlan j reason) q) :
    vget q.selectors j = c ∧
    ((vget p.selectors j).deferCount + 1 = (p.selectorCfg j).deferLimit →
      q.xu.Noted .switchDeferred (selectorUnit j) { w9 := BitVec.ofNat 16 reason.code, w10 := 0 }) ∧
    ((vget p.selectors j).deferCount + 1 ≠ (p.selectorCfg j).deferLimit → q.xu.notes = p.xu.notes) ∧
    q.phasers = p.phasers :=
  ⟨by rw [h.selectors, vget_vset_same], fun hl => h.noted (deferPlan_noted j reason p hl),
    fun hl => h.notes.trans (deferPlan_notes j reason p hl), h.phasers.trans (deferPlan_phasers j reason p)⟩

theorem deferPlan_selector (j : Fin 2) (reason : DeferReason) (p : Part) :
    vget (p.deferPlan j reason).selectors j =
      (vget p.selectors j).deferred reason (p.selectorCfg j).deferLimit := by
  rw [deferPlan_selectors, vget_vset_same]

/-- A cancelled upward plan goes back to LOW and releases the output (R96). -/
theorem cancelUp_cancelled (j : Fin 2) (reason : DeferReason) (p : Part) (hs : (vget p.selectors j).state = .armedUp) :
    Cancelled p j reason ((p.deferPlan j reason).changeSelector j
      { vget (p.deferPlan j reason).selectors j with state := .low, lastShiftResult := .cancelled }) := by
  have down : (vget p.selectors j).state ≠ .armedDown := fun h => SelectorState.noConfusion (hs.symm.trans h)
  have moved : (vget (p.deferPlan j reason).selectors j).state ≠ .low := by
    rw [deferPlan_selector]; exact fun h => SelectorState.noConfusion (hs.symm.trans h)
  rw [deferPlan_selector]
  generalize hc : ({ (vget p.selectors j).deferred reason (p.selectorCfg j).deferLimit with
    state := .low, lastShiftResult := .cancelled } : SelectorCtx) = c
  have state : c.state = .low := by rw [← hc]
  have stored := changeSelector_stored j c (p.deferPlan j reason) (by rw [state]; exact SelectorState.noConfusion)
  obtain ⟨selector, noted, notes, phasers⟩ := deferred_stored j reason c p _ stored
  exact ⟨fun _ => ⟨selector.trans hc.symm, stored.request .release (by rwa [state]) (by rw [state]; rfl)⟩,
    fun h => absurd h down, fun h => absurd h down, noted, notes, phasers⟩

/-- A cancelled downward plan goes back to HIGH, or stays ARMED_DOWN with the release owed again (R97). -/
theorem cancelDown_cancelled (j : Fin 2) (reason : DeferReason) (p : Part)
    (hs : (vget p.selectors j).state = .armedDown) :
    Cancelled p j reason (if (vget (p.deferPlan j reason).selectors j).owedPlan = true
      then (p.deferPlan j reason).changeSelector j
        { vget (p.deferPlan j reason).selectors j with releaseOwed := true, owedPlan := false }
      else (p.deferPlan j reason).changeSelector j
        { vget (p.deferPlan j reason).selectors j with state := .high, lastShiftResult := .cancelled }) := by
  have up : (vget p.selectors j).state ≠ .armedUp := fun h => SelectorState.noConfusion (hs.symm.trans h)
  have owedPlan : ((vget p.selectors j).deferred reason (p.selectorCfg j).deferLimit).owedPlan =
    (vget p.selectors j).owedPlan := rfl
  rw [deferPlan_selector, owedPlan]
  split
  · next ho =>
    generalize hc : ({ (vget p.selectors j).deferred reason (p.selectorCfg j).deferLimit with
      releaseOwed := true, owedPlan := false } : SelectorCtx) = c
    have state : c.state = .armedDown := by rw [← hc]; exact hs
    obtain ⟨selector, noted, notes, phasers⟩ := deferred_stored j reason c p _
      (changeSelector_stored j c (p.deferPlan j reason) (by rw [state]; exact SelectorState.noConfusion))
    exact ⟨fun h => absurd h up, fun _ h => Bool.noConfusion (ho.symm.trans h), fun _ _ => selector.trans hc.symm, noted,
      notes, phasers⟩
  · next ho =>
    generalize hc : ({ (vget p.selectors j).deferred reason (p.selectorCfg j).deferLimit with
      state := .high, lastShiftResult := .cancelled } : SelectorCtx) = c
    have state : c.state = .high := by rw [← hc]
    obtain ⟨selector, noted, notes, phasers⟩ := deferred_stored j reason c p _
      (changeSelector_stored j c (p.deferPlan j reason) (by rw [state]; exact SelectorState.noConfusion))
    exact ⟨fun h => absurd h up, fun _ _ => selector.trans hc.symm, fun _ h => absurd h ho, noted, notes, phasers⟩

/-! ## The action match -/

/-- The action slot hands its match to the selector's action (Table 1-7). -/
theorem fire_actionSlot (j : Fin 2) (late : Bool) (p : Part) :
    p.fire (actionSlot j) late = (p.cancelMatch (actionSlot j)).actionMatch j late := by
  match j with
  | 0 | 1 => rfl

theorem actionSlot_ne (j : Fin 2) : actionSlot j ≠ 22 := by revert j; decide

/-- An action match of an armed selector that is late, or whose head does not qualify, cancels the plan, LATE before
PHASERS (R19, R96, R97; log 74). -/
theorem actionMatch_cancelled (j : Fin 2) (up late : Bool) (p : Part)
    (hs : (vget p.selectors j).state = if up then .armedUp else .armedDown)
    (hq : late = true ∨ p.headQualifies j up = false) :
    Cancelled p j (if late then .late else .phasers) (p.actionMatch j late) := by
  have barred : late = false → p.headQualifies j up = false := fun h => hq.resolve_left (by simp [h])
  cases up with
  | true =>
    have hs : (vget p.selectors j).state = .armedUp := hs
    simp only [Part.actionMatch, hs, Part.energiseMatch]
    cases late with
    | true => exact cancelUp_cancelled j .late p hs
    | false =>
      rw [barred rfl]
      exact cancelUp_cancelled j .phasers p hs
  | false =>
    have hs : (vget p.selectors j).state = .armedDown := hs
    simp only [Part.actionMatch, hs, Part.releaseMatch]
    cases late with
    | true => exact cancelDown_cancelled j .late p hs
    | false =>
      rw [barred rfl]
      exact cancelDown_cancelled j .phasers p hs

/-- An action match on time whose head qualifies begins the shift (R96, R97). -/
theorem actionMatch_begins (j : Fin 2) (up : Bool) (p : Part)
    (hs : (vget p.selectors j).state = if up then .armedUp else .armedDown) (hq : p.headQualifies j up = true) :
    p.actionMatch j false = p.beginShift j (if up
      then { vget p.selectors j with state := .shiftingUp, dipSeen := false, speedAtEnergise := p.angle.speed }
      else { vget p.selectors j with state := .shiftingDown, owedPlan := false }) := by
  cases up with
  | true =>
    have hs : (vget p.selectors j).state = .armedUp := hs
    simp [Part.actionMatch, hs, Part.energiseMatch, hq]
  | false =>
    have hs : (vget p.selectors j).state = .armedDown := hs
    simp [Part.actionMatch, hs, Part.releaseMatch, hq]

/-- A TRACKING phaser takes the hold as HOLDING, held by the selector (R59). -/
theorem takeHold_tracking (c : PhaserCtx) (h : c.state = .tracking) :
    c.takeHold.state = .holding ∧ c.takeHold.held = true := by
  simp [PhaserCtx.takeHold, h]

/-- What a shift that begins leaves: the selector shifting with its output asked for the switch, the TRACKING phasers of
the head held, and the window-close match placed. -/
structure Begun (p : Part) (j : Fin 2) (q : Part) : Prop where
  up : (vget p.selectors j).state = .armedUp →
    vget q.selectors j = { vget p.selectors j with
      state := .shiftingUp, dipSeen := false, speedAtEnergise := p.angle.speed } ∧
    (vget q.channels (selectorOutput j)).request = p.energiseRequest j
  down : (vget p.selectors j).state = .armedDown →
    vget q.selectors j = { vget p.selectors j with state := .shiftingDown, owedPlan := false } ∧
    (vget q.channels (selectorOutput j)).request = .release
  held : ∀ i, headOf i = j → (vget p.phasers i).state = .tracking →
    (vget q.phasers i).state = .holding ∧ (vget q.phasers i).held = true
  close : vget q.slots (closeSlot j) = q.angle.place p.clock (vget p.selectors j).wc .cycle

/-- An action match on time whose head qualifies begins the shift, up or down. -/
theorem actionMatch_begun (j : Fin 2) (up : Bool) (p : Part)
    (hs : (vget p.selectors j).state = if up then .armedUp else .armedDown) (hq : p.headQualifies j up = true)
    (sync : p.angle.sync = .cycleLocked) : Begun p j (p.actionMatch j false) := by
  rw [actionMatch_begins j up p hs hq]
  cases up with
  | true =>
    have hs : (vget p.selectors j).state = .armedUp := hs
    obtain ⟨selector, request, held, slot⟩ := beginShift_begins j
      { vget p.selectors j with state := .shiftingUp, dipSeen := false, speedAtEnergise := p.angle.speed }
      (p.energiseRequest j) p SelectorState.noConfusion (fun h => SelectorState.noConfusion (hs.symm.trans h)) rfl sync
    exact ⟨fun _ => ⟨selector, request⟩, fun h => SelectorState.noConfusion (hs.symm.trans h),
      fun i hi ht => by simpa [held i hi] using takeHold_tracking _ ht, slot⟩
  | false =>
    have hs : (vget p.selectors j).state = .armedDown := hs
    obtain ⟨selector, request, held, slot⟩ := beginShift_begins j
      { vget p.selectors j with state := .shiftingDown, owedPlan := false } .release p
      SelectorState.noConfusion (fun h => SelectorState.noConfusion (hs.symm.trans h)) rfl sync
    exact ⟨fun h => SelectorState.noConfusion (hs.symm.trans h), fun _ => ⟨selector, request⟩,
      fun i hi ht => by simpa [held i hi] using takeHold_tracking _ ht, slot⟩

/-- An expiry of an armed slot fires its match on time, the clock at the expiry (R18). -/
theorem exec_matchExpiry_armed (s : State) (k : Fin 24) (x : Nat) (kind : MatchKind) (e : Tick)
    (awake : s.part.awake = true) (armed : vget s.part.slots k = .armed x kind e) :
    exec (.matchExpiry k) s = .next { s with part := Part.fire k false { s.part with clock := e } } := by
  have expired : s.part.expire k = Part.fire k false { s.part with clock := e } := by simp only [Part.expire, armed]
  exact congrArg Host.Outcome.next ((s.event_awake _ awake).trans (by rw [expired]))

/-- Settles O47: on time the match begins the shift when the head qualifies (`actionMatch_begun`), else it cancels the
plan (`actionMatch_cancelled`), and so does every late match. -/
theorem theActionMatchSwitchesTheSolenoid : Obligations.TheActionMatchSwitchesTheSolenoid := by
  unfold Obligations.TheActionMatchSwitchesTheSolenoid
  intro begins cancels
  have asCancels : ∀ (p q : Part) (j : Fin 2) (reason : DeferReason), Cancelled p j reason q → cancels p j reason q :=
    fun p q j reason h => ⟨h.up, h.down, h.owed, h.noted, h.notes, h.phasers⟩
  have asBegins : ∀ (p q : Part) (j : Fin 2), Begun p j q → begins p j p.clock q :=
    fun p q j h => ⟨h.up, h.down, h.held, h.close⟩
  refine ⟨fun s j up x kind e awake armed sync state => ?_, fun p j state => ⟨?_, ?_⟩⟩
  · refine ⟨_, exec_matchExpiry_armed s _ x kind e awake armed,
      (Part.Still.withClock s.part e).trans (Part.fire_still _ _ _ (actionSlot_ne j)), fun qualifies => ?_, fun bars => ?_⟩
    all_goals rw [fire_actionSlot]
    · exact asBegins (Part.cancelMatch (actionSlot j) { s.part with clock := e }) _ j
        (actionMatch_begun j up _ state qualifies sync)
    · exact asCancels (Part.cancelMatch (actionSlot j) { s.part with clock := e }) _ j .phasers
        (actionMatch_cancelled j up false _ state (.inr bars))
  · rw [fire_actionSlot]
    refine asCancels (p.cancelMatch (actionSlot j)) _ j .late ?_
    rcases state with state | state
    · exact actionMatch_cancelled j true true _ state (.inl rfl)
    · exact actionMatch_cancelled j false true _ state (.inl rfl)
  · exact p.fire_still _ _ (actionSlot_ne j)

end Sys2Proof.Machine.PhaserSequencing
end

section
/-! SUPPORT. A phaser's update (O37, O38): what the hand-out of an update's outcome leaves of the context, the faults and
the duty, and what each rule of chapter 3 makes of the context it finds. -/

namespace Sys2Proof.Machine.PhaserSequencing

/-! ## The hand-out of an outcome -/

/-- Reports after a stored context leave it stored. -/
theorem ContextStored.reported {i : Fin 4} {c : PhaserCtx} {p q r : Part} (h : ContextStored i c p q)
    (k : Reports q r) : ContextStored i c p r := by
  have phasers : r.phasers = q.phasers := by rw [k.frame]
  have latched : r.latched = q.latched := by rw [k.frame]
  have present : r.present = q.present := by rw [k.frame]
  have config : r.config = q.config := by rw [k.frame]
  have selectors : r.selectors = q.selectors := by rw [k.frame]
  have channels : r.channels = q.channels := by rw [k.frame]
  exact ⟨phasers.trans h.phasers, latched.trans h.latched,
    fun kind u hk => by rw [Part.isPresent, present]; exact h.present kind u hk, config.trans h.config,
    selectors.trans h.selectors, fun hd => channels.trans (h.channels hd), by rw [channels]; exact h.request⟩

/-- The part as the raises of an update find it, less the ends of TRACKING_ERROR. -/
theorem reported_stored (m : Mem) (i : Fin 4) (o : UpdateOut) (p : Part) :
    ContextStored i o.ctx p (reported m i o (p.storePhaser i o.ctx)) :=
  (storePhaser_stored i o.ctx p).reported (reported_reports m i o _)

/-- An outcome that neither enters PARKED or FAULTED nor recovers ends no TRACKING_ERROR. -/
theorem ended_of_stay (i : Fin 4) (was : PhaserState) (o : UpdateOut) (p : Part)
    (hs : was = o.ctx.state ∨ (o.ctx.state ≠ .parked ∧ o.ctx.state ≠ .faulted)) (hr : o.recovered = false) :
    ended i was o p = p := by
  simp [ended, hr, endTracking_of_stay i was o.ctx.state p hs]

/-- The ends of TRACKING_ERROR leave the context of an update, unless it enters FAULTED itself. -/
theorem ended_context (i : Fin 4) (was : PhaserState) (o : UpdateOut) (p : Part) (hp : vget p.phasers i = o.ctx)
    (hf : o.ctx.state = .faulted → was = .faulted ∧ o.recovered = false) :
    vget (ended i was o p).phasers i = o.ctx := by
  by_cases h : o.ctx.state = .faulted
  · obtain ⟨hw, hr⟩ := hf h
    rw [ended_of_stay i was o p (.inl (hw.trans h.symm)) hr, hp]
  · have tracked : vget (p.endTracking i was o.ctx.state).phasers i = o.ctx := by
      unfold Part.endTracking
      split
      · rw [cease_phaser_of_ne _ _ _ _ (by rwa [hp]), hp]
      · exact hp
    unfold ended
    dsimp only
    split
    · rw [cease_phaser_of_ne _ _ _ _ (by rwa [tracked]), tracked]
    · exact tracked

/-- An outcome without a raise leaves its context. -/
theorem finishUpdate_context (m : Mem) (i : Fin 4) (was : PhaserState) (o : UpdateOut) (p : Part) (hr : o.raises = [])
    (hf : o.ctx.state = .faulted → was = .faulted ∧ o.recovered = false) :
    vget (p.finishUpdate m i was o).phasers i = o.ctx := by
  rw [finishUpdate_eq, hr]
  exact ended_context i was o _ (by rw [(reported_stored m i o p).phasers, vget_vset_same]) hf

/-- An outcome with one raise. -/
theorem finishUpdate_raise (m : Mem) (i : Fin 4) (was : PhaserState) (o : UpdateOut) (p : Part) (k : Kind) (d : Detail)
    (hr : o.raises = [(k, d)]) :
    p.finishUpdate m i was o = (ended i was o (reported m i o (p.storePhaser i o.ctx))).raise k (phaserUnit i) d
      k.raisedPresent := by
  rw [finishUpdate_eq, hr]
  rfl

/-- LOCK_STUCK and RETURN_STUCK fault the phaser that raises them in an update (R52, R61, R62). -/
theorem finishUpdate_stuck (m : Mem) (i : Fin 4) (was : PhaserState) (o : UpdateOut) (p : Part) (k : Kind) (d : Detail)
    (hk : k = .lockStuck ∨ k = .returnStuck) (hr : o.raises = [(k, d)]) (hw : was = o.ctx.state)
    (hn : o.recovered = false) (hf : o.ctx.state ≠ .faulted) :
    vget (p.finishUpdate m i was o).phasers i = o.ctx.toFaulted ∧
      (p.finishUpdate m i was o).isLatched k (phaserUnit i) = true ∧
      (p.finishUpdate m i was o).xu.attn.getLsbD 1 = true := by
  have stored := reported_stored m i o p
  have force : ∀ c : Configuration, c.reaction k = some .force := fun _ => by rcases hk with rfl | rfl <;> rfl
  have other : k ≠ .trackingError := by rcases hk with rfl | rfl <;> exact Kind.noConfusion
  have found : vget (reported m i o (p.storePhaser i o.ctx)).phasers i = o.ctx := by
    rw [stored.phasers, vget_vset_same]
  rw [finishUpdate_raise m i was o p k d hr, ended_of_stay i was o _ (.inl hw) hn]
  have forced := raise_force i d k.raisedPresent (reported m i o (p.storePhaser i o.ctx)) (force _)
    (by rwa [found]) (.inl other)
  rw [found] at forced
  exact ⟨forced.1, forced.2, raise_attn _ _ _ _ _⟩

/-- A stop leaves the context RETURNING, and OIL_LOW is latched and present when it raises it (R53, R54). -/
theorem finishUpdate_stop (m : Mem) (i : Fin 4) (was : PhaserState) (c : PhaserCtx) (a p : Part) :
    vget (p.finishUpdate m i was (a.stop i c)).phasers i = c.toReturning (a.phaserCfg i).parkDuty ∧
      (a.oilStop = true → (p.finishUpdate m i was (a.stop i c)).isLatched .oilLow (phaserUnit i) = true ∧
        (p.finishUpdate m i was (a.stop i c)).isPresent .oilLow (phaserUnit i) = true ∧
        (p.finishUpdate m i was (a.stop i c)).xu.attn.getLsbD 1 = true) := by
  by_cases ho : a.oilStop = true
  case neg =>
    exact ⟨finishUpdate_context m i was _ p (by simp [Part.stop, ho]) PhaserState.noConfusion, fun h => absurd h ho⟩
  have stored := reported_stored m i (a.stop i c) p
  have found : vget (reported m i (a.stop i c) (p.storePhaser i (a.stop i c).ctx)).phasers i =
      c.toReturning (a.phaserCfg i).parkDuty := by rw [stored.phasers, vget_vset_same]; rfl
  rw [finishUpdate_raise m i was _ p .oilLow (detailOf a.xu.oilPressure) (by simp [Part.stop, ho]),
    ended_of_stay i was _ _ (.inr ⟨PhaserState.noConfusion, PhaserState.noConfusion⟩) rfl]
  generalize reported m i (a.stop i c) (p.storePhaser i (a.stop i c).ctx) = r at found
  have parks : (latchedSummary .oilLow (phaserUnit i) true r).react (phaserUnit i) .park =
      latchedSummary .oilLow (phaserUnit i) true r := by
    rw [react_phaser_park]
    exact parkPhaser_of_rest i _ (.inl (by rw [latchedSummary_phasers, found]; rfl))
  have reaction : r.cfg.reaction .oilLow = some .park := rfl
  refine ⟨?_, fun _ => ⟨?_, ?_, raise_attn _ _ _ _ _⟩⟩
  · rw [raise_phasers _ _ _ r reaction]
    exact (congrArg (fun x : Part => vget x.phasers i) parks).trans (by rw [latchedSummary_phasers, found])
  · rw [Part.isLatched, raise_latched _ _ _ r reaction]
    exact (congrArg (fun x : Part => x.isLatched .oilLow (phaserUnit i)) parks).trans
      (latchedSummary_isLatched _ _ _ r)
  · rw [Part.isPresent, raise_present _ _ _ r reaction]
    exact (congrArg (fun x : Part => x.isPresent .oilLow (phaserUnit i)) parks).trans
      (latchedSummary_isPresent _ _ r)

/-! ## The duty and the output's request (R46) -/

/-- A duty other than `d` has been told to the output. -/
def DutyTold (i : Fin 4) (d : Nat) (p : Part) : Prop :=
  (vget p.phasers i).duty ≠ d → (vget p.channels (phaserOutput i)).request = .duty (vget p.phasers i).duty

theorem ContextStored.told {i : Fin 4} {c : PhaserCtx} {p q : Part} (h : ContextStored i c p q) {d : Nat}
    (hp : DutyTold i d p) : DutyTold i d q := by
  intro hd
  rw [h.phasers, vget_vset_same] at hd ⊢
  rw [h.request]
  split
  · rfl
  · next same =>
    have same : (vget p.phasers i).duty = c.duty := Decidable.not_not.mp same
    rw [hp (by rwa [same]), same]

theorem cease_told (k : Kind) (u : Unit15) (i : Fin 4) (d : Nat) (p : Part) (hp : DutyTold i d p) :
    DutyTold i d (p.cease k u) := by
  unfold DutyTold
  rw [cease_duty, cease_request]
  exact hp

theorem endTracking_told (i : Fin 4) (old new : PhaserState) (d : Nat) (p : Part) (hp : DutyTold i d p) :
    DutyTold i d (p.endTracking i old new) := by
  unfold Part.endTracking
  split
  · exact cease_told _ _ i d p hp
  · exact hp

theorem changePhaser_told (i : Fin 4) (c : PhaserCtx) (d : Nat) (p : Part) (hp : DutyTold i d p) :
    DutyTold i d (p.changePhaser i c) := by
  obtain ⟨q, hq, e⟩ := changePhaser_stored i c p
  rw [e]
  exact endTracking_told i _ _ d q (hq.told hp)

theorem react_told (i : Fin 4) (r : Reaction) (d : Nat) (p : Part) (hp : DutyTold i d p) :
    DutyTold i d (p.react (phaserUnit i) r) := by
  cases r with
  | proceed => rwa [react_phaser_proceed]
  | park =>
    rw [react_phaser_park]
    unfold Part.parkPhaser
    dsimp only
    split
    case h_1 | h_2 | h_3 => exact changePhaser_told i _ d p hp
    all_goals exact hp
  | force =>
    rw [react_phaser_force]
    unfold Part.forcePhaser
    dsimp only
    split
    · exact hp
    · exact changePhaser_told i _ d p hp

theorem raise_told (i : Fin 4) (k : Kind) (x : Detail) (b : Bool) (d : Nat) (p : Part) (hp : DutyTold i d p) :
    DutyTold i d (p.raise k (phaserUnit i) x b) := by
  have latched : DutyTold i d (latchedSummary k (phaserUnit i) b p) := by
    unfold DutyTold
    rwa [latchedSummary_phasers, latchedSummary_channels]
  have reacted : DutyTold i d (match (latchedSummary k (phaserUnit i) b p).cfg.reaction k with
      | some r => (latchedSummary k (phaserUnit i) b p).react (phaserUnit i) r
      | none => latchedSummary k (phaserUnit i) b p) := by
    split
    · exact react_told i _ d _ latched
    · exact latched
  unfold DutyTold at reacted ⊢
  unfold Part.raise
  dsimp only [latchedSummary] at reacted ⊢
  rw [Part.setCause_phasers, note_phasers, Part.setCause_channels, note_channels]
  exact reacted

/-- Every duty that an update sets is the output's new request. -/
theorem finishUpdate_told (m : Mem) (i : Fin 4) (was : PhaserState) (o : UpdateOut) (d : Nat) (p : Part)
    (hp : DutyTold i d p) : DutyTold i d (p.finishUpdate m i was o) := by
  have stored : DutyTold i d (reported m i o (p.storePhaser i o.ctx)) := (reported_stored m i o p).told hp
  have tracked : DutyTold i d (ended i was o (reported m i o (p.storePhaser i o.ctx))) := by
    unfold ended
    dsimp only
    split
    · exact cease_told _ _ i d _ (endTracking_told i _ _ d _ stored)
    · exact endTracking_told i _ _ d _ stored
  rw [finishUpdate_eq]
  generalize ended i was o (reported m i o (p.storePhaser i o.ctx)) = q at tracked
  induction o.raises generalizing q with
  | nil => exact tracked
  | cons r rs ih => exact ih _ (raise_told i _ _ _ d q tracked)

/-! ## What an update leaves (R48) -/

/-- An update's hand-out leaves the cycle number, the demand, the settings, the Angle Unit and the passes. -/
theorem finishUpdate_leaves (m : Mem) (i : Fin 4) (was : PhaserState) (o : UpdateOut) (p : Part) :
    (p.finishUpdate m i was o).xu.cycle = p.xu.cycle ∧ (p.finishUpdate m i was o).demand = p.demand ∧
      (p.finishUpdate m i was o).config = p.config ∧ (p.finishUpdate m i was o).angle = p.angle ∧
      (p.finishUpdate m i was o).passes = p.passes := by
  have out := finishUpdate_outward m i was o p
  have reports := reported_reports m i o (p.storePhaser i o.ctx)
  have stored := storePhaser_onOutputs i o.ctx p
  refine ⟨?_, ?_, ?_, ?_, ?_⟩
  · exact ((congrArg XuRest.cycle out.rest).trans (congrArg XuRest.cycle reports.rest)).trans stored.cycle
  · rw [out.demand, reports.frame]; exact stored.demand
  · rw [out.config, reports.frame]; exact stored.config
  · rw [out.angle, reports.frame]; exact stored.angle
  · rw [out.passes, reports.frame]; exact stored.passes

/-! ## The update as the outcome of its state's rule -/

/-- The context with the measurement and the demand taken (R33, R48). -/
def takenContext (p : Part) (i : Fin 4) (phase : Int) (confirm : Bool) : PhaserCtx :=
  (vget p.phasers i).take phase confirm (vget p.demand i) p.xu.cycle

theorem takenContext_duty (p : Part) (i : Fin 4) (phase : Int) (confirm : Bool) :
    (takenContext p i phase confirm).duty = (vget p.phasers i).duty := rfl

/-! The rules of an update read neither the stored contexts nor the Cam Edge Unit. -/

section
variable (v : Vector PhaserCtx 4) (w : Vector CamPhaser 4) (i : Fin 4) (c : PhaserCtx) (p : Part)

theorem startHolds_units : Part.startHolds { p with phasers := v, cams := w } i c = p.startHolds i c := rfl

theorem stop_units : Part.stop { p with phasers := v, cams := w } i c = p.stop i c := rfl

theorem compute_units : Part.compute { p with phasers := v, cams := w } i c = p.compute i c := rfl

theorem learn_units (prevBand : Nat) :
    Part.learn { p with phasers := v, cams := w } i prevBand c = p.learn i prevBand c := rfl

theorem judgeTracking_units (o : UpdateOut) :
    Part.judgeTracking { p with phasers := v, cams := w } i o = p.judgeTracking i o := rfl

theorem trackFromRamp_units : Part.trackFromRamp { p with phasers := v, cams := w } i c = p.trackFromRamp i c := by
  unfold Part.trackFromRamp
  dsimp only
  rw [compute_units, learn_units, judgeTracking_units]
  rfl

theorem updateBody_units : Part.updateBody { p with phasers := v, cams := w } i c = p.updateBody i c := by
  unfold Part.updateBody Part.unlockUpdate Part.trackFromFreeze Part.holdCompute
  simp only [startHolds_units, stop_units, compute_units, trackFromRamp_units]
  rfl

end

/-- An update with no OIL_LOW to end hands out what the rule of the state it finds makes of the taken context. -/
theorem phaserUpdate_eq (m : Mem) (i : Fin 4) (phase : Int) (confirm : Bool) (p : Part)
    (h : p.isPresent .oilLow (phaserUnit i) = false ∨ p.xu.oilPressure < p.cfg.holdPressure) :
    p.phaserUpdate m i phase confirm =
      (p.storePhaser i (takenContext p i phase confirm)).finishUpdate m i (vget p.phasers i).state
        (p.updateBody i (takenContext p i phase confirm)) := by
  have stored := storePhaser_same_duty i _ p (takenContext_duty p i phase confirm)
  have body : (p.storePhaser i (takenContext p i phase confirm)).updateBody i (takenContext p i phase confirm) =
      p.updateBody i (takenContext p i phase confirm) := by rw [stored]; exact updateBody_units _ _ i _ p
  have context : vget (p.storePhaser i (takenContext p i phase confirm)).phasers i = takenContext p i phase confirm := by
    rw [stored]; exact vget_vset_same _ _ _
  have oil : (if (p.storePhaser i (takenContext p i phase confirm)).oilStop = true
      then p.storePhaser i (takenContext p i phase confirm)
      else (p.storePhaser i (takenContext p i phase confirm)).cease .oilLow (phaserUnit i)) =
      p.storePhaser i (takenContext p i phase confirm) := by
    split
    · rfl
    · next hs =>
      refine if_neg ?_
      rw [stored] at hs ⊢
      exact fun hp => h.elim (fun hn => Bool.noConfusion (hn.symm.trans hp)) fun hl => hs (decide_eq_true hl)
  unfold Part.phaserUpdate
  dsimp only
  rw [← takenContext, oil, context, body]
  rfl

/-! ## The rule of each state (R51 to R61) -/

theorem barsUnlock_eq_false (s : SelectorState) : s.barsUnlock = false ↔ s = .low ∨ s = .high ∨ s = .faulted := by
  cases s <;> simp [SelectorState.barsUnlock]

/-- Only kinds with reaction proceed, or with none, are latched on a unit. -/
theorem latchedWith_eq_false (p : Part) (u : Unit15) : p.latchedWith u (· ≠ .proceed) = false ↔
    ∀ k, p.isLatched k u = true → p.cfg.reaction k = some .proceed ∨ p.cfg.reaction k = none := by
  simp only [Part.latchedWith, List.any_eq_false, mem_allKinds, forall_const, Bool.and_eq_true, not_and]
  refine forall_congr' fun k => imp_congr_right fun _ => ?_
  cases p.cfg.reaction k with
  | none => simp
  | some r => cases r <;> simp

/-- The start conditions, one by one (R51). -/
theorem startHolds_iff (p : Part) (i : Fin 4) (c : PhaserCtx) : p.startHolds i c = true ↔
    p.angle.sync = .cycleLocked ∧ p.config ≠ none ∧ c.enabled = true ∧ 0 < c.ta ∧
    p.cfg.enableSpeed ≤ p.angle.speed ∧ p.isPresent .conditionsStale 14 = false ∧ p.cfg.enableTemp ≤ p.xu.oilTemp ∧
    p.cfg.unlockPressure ≤ p.xu.oilPressure ∧ c.confirmed = true ∧
    ((vget p.selectors (headOf i)).state = .low ∨ (vget p.selectors (headOf i)).state = .high ∨
      (vget p.selectors (headOf i)).state = .faulted) ∧
    (∀ kind, p.isLatched kind (phaserUnit i) = true ∨ p.isLatched kind (outputUnit (phaserOutput i)) = true →
      p.cfg.reaction kind = some .proceed ∨ p.cfg.reaction kind = none) ∧ p.stage.shutdown = false := by
  have barred : p.unlockBarred i = false ↔
      ∀ kind, p.isLatched kind (phaserUnit i) = true ∨ p.isLatched kind (outputUnit (phaserOutput i)) = true →
        p.cfg.reaction kind = some .proceed ∨ p.cfg.reaction kind = none := by
    simp only [Part.unlockBarred, Bool.or_eq_false_iff, latchedWith_eq_false, or_imp, forall_and]
  rw [← barred, ← barsUnlock_eq_false]
  simp only [Part.startHolds, Part.stale, conditionsUnit, Bool.and_eq_true, decide_eq_true_eq, Bool.not_eq_true',
    Option.isSome_iff_ne_none, and_assoc]

/-- The stop conditions (R53). -/
theorem stopHolds_iff (p : Part) (c : PhaserCtx) : p.stopHolds c = true ↔
    c.enabled = false ∨ p.angle.speed + p.cfg.enableHyst < p.cfg.enableSpeed ∨
      p.xu.oilPressure < p.cfg.holdPressure := by
  simp [Part.stopHolds, Part.oilStop, or_assoc]

/-- The clamp of a value to a range is the model's. -/
theorem clampInt_eq (lo hi x : Int) (h : lo ≤ hi) : clampInt lo hi x = max lo (min hi x) := by
  unfold clampInt
  split
  · omega
  · split <;> omega

/-- The ramp of one update (R55). -/
theorem rampStep_eq (slew : Nat) (c : PhaserCtx) : rampStep slew c = { c with
    tr := if slew = 0 then c.ta else
      ((c.tr : Int) + max (-(slew : Int)) (min (slew : Int) ((c.ta : Int) - c.tr))).toNat } := by
  unfold rampStep
  rw [clampInt_eq _ _ _ (by omega)]
  split <;> rfl

/-- The context of an UNLOCKING phaser at an update that does not release it: its edges are counted (R52). -/
def counted (near : Bool) (c : PhaserCtx) : PhaserCtx :=
  { c with edges := c.edges + 1, run := if near then c.run + 1 else 0 }

/-- Until the second edge in a row at 20 dd or more an UNLOCKING phaser waits, up to LOCK_STUCK (R52). -/
theorem unlockUpdate_waits (p : Part) (i : Fin 4) (c : PhaserCtx) (h : (counted (decide (20 ≤ c.phase)) c).run < 2) :
    p.unlockUpdate i c = { UpdateOut.plain (counted (decide (20 ≤ c.phase)) c) with
      raises := if (p.phaserCfg i).unlockEdges ≤ c.edges + 1 then [(.lockStuck, detailOf c.phase)] else [] } := by
  simp only [counted, decide_eq_true_eq] at h ⊢
  exact if_neg (Nat.not_le.mpr h)

/-- An UNLOCKING phaser short of its limit counts the edge. -/
theorem unlockUpdate_counts (p : Part) (i : Fin 4) (c : PhaserCtx) (h : (counted (decide (20 ≤ c.phase)) c).run < 2)
    (he : c.edges + 1 < (p.phaserCfg i).unlockEdges) :
    p.unlockUpdate i c = .plain (counted (decide (20 ≤ c.phase)) c) := by
  rw [unlockUpdate_waits p i c h, if_neg (Nat.not_le.mpr he)]
  rfl

/-- An UNLOCKING phaser at its limit is stuck. -/
theorem unlockUpdate_stuck (p : Part) (i : Fin 4) (c : PhaserCtx) (h : (counted (decide (20 ≤ c.phase)) c).run < 2)
    (he : (p.phaserCfg i).unlockEdges ≤ c.edges + 1) :
    p.unlockUpdate i c = { UpdateOut.plain (counted (decide (20 ≤ c.phase)) c) with
      raises := [(.lockStuck, detailOf c.phase)] } := by
  rw [unlockUpdate_waits p i c h, if_pos he]

/-- The second edge in a row at 20 dd or more releases an UNLOCKING phaser (R52). -/
theorem unlockUpdate_releases (p : Part) (i : Fin 4) (c : PhaserCtx)
    (h : 2 ≤ (counted (decide (20 ≤ c.phase)) c).run) :
    p.unlockUpdate i c = p.trackFromFreeze i (c.toTracking (p.phaserCfg i).stroke) := by
  simp only [counted, decide_eq_true_eq] at h
  exact if_pos h

/-- Until the second edge in a row at 5 dd or less a RETURNING phaser waits, up to RETURN_STUCK (R61). -/
theorem returnUpdate_waits (p : Part) (i : Fin 4) (c : PhaserCtx) (h : (counted (decide (c.phase ≤ 5)) c).run < 2) :
    p.returnUpdate i c = { UpdateOut.plain (counted (decide (c.phase ≤ 5)) c) with
      raises := if (p.phaserCfg i).returnEdges ≤ c.edges + 1 then [(.returnStuck, detailOf c.phase)] else [] } := by
  simp only [counted, decide_eq_true_eq] at h ⊢
  exact if_neg (Nat.not_le.mpr h)

/-- A RETURNING phaser short of its limit counts the edge. -/
theorem returnUpdate_counts (p : Part) (i : Fin 4) (c : PhaserCtx) (h : (counted (decide (c.phase ≤ 5)) c).run < 2)
    (he : c.edges + 1 < (p.phaserCfg i).returnEdges) :
    p.returnUpdate i c = .plain (counted (decide (c.phase ≤ 5)) c) := by
  rw [returnUpdate_waits p i c h, if_neg (Nat.not_le.mpr he)]
  rfl

/-- A RETURNING phaser at its limit is stuck. -/
theorem returnUpdate_stuck (p : Part) (i : Fin 4) (c : PhaserCtx) (h : (counted (decide (c.phase ≤ 5)) c).run < 2)
    (he : (p.phaserCfg i).returnEdges ≤ c.edges + 1) :
    p.returnUpdate i c = { UpdateOut.plain (counted (decide (c.phase ≤ 5)) c) with
      raises := [(.returnStuck, detailOf c.phase)] } := by
  rw [returnUpdate_waits p i c h, if_pos he]

/-- The second edge in a row at 5 dd or less parks a RETURNING phaser, confirmed (R61). -/
theorem returnUpdate_parks (p : Part) (i : Fin 4) (c : PhaserCtx) (h : 2 ≤ (counted (decide (c.phase ≤ 5)) c).run) :
    p.returnUpdate i c = UpdateOut.plain (c.toParked true) := by
  simp only [counted, decide_eq_true_eq] at h
  exact if_pos h

/-! ## Learning and the judgement of the error (R56, R57, R77) -/

/-- The computation and the learning keep what the state machine and the judgement hold. -/
structure KeepsMachine (c c' : PhaserCtx) : Prop where
  state : c'.state = c.state
  ta : c'.ta = c.ta
  tr : c'.tr = c.tr
  edges : c'.edges = c.edges
  run : c'.run = c.run
  track : c'.track = c.track
  recov : c'.recov = c.recov

theorem learn_keeps (p : Part) (i : Fin 4) (prevBand : Nat) (c : PhaserCtx) :
    KeepsMachine c (p.learn i prevBand c).ctx := by
  unfold Part.learn
  dsimp only
  split
  · exact ⟨rfl, rfl, rfl, rfl, rfl, rfl, rfl⟩
  · split <;> exact ⟨rfl, rfl, rfl, rfl, rfl, rfl, rfl⟩

theorem learn_compute_keeps (p : Part) (i : Fin 4) (prevBand : Nat) (c : PhaserCtx) :
    KeepsMachine c (p.learn i prevBand (p.compute i c)).ctx :=
  have k := learn_keeps p i prevBand (p.compute i c)
  ⟨k.state, k.ta, k.tr, k.edges, k.run, k.track, k.recov⟩

/-- A learning outcome computes, recovers nothing and raises nothing. -/
theorem learn_outcome (p : Part) (i : Fin 4) (prevBand : Nat) (c : PhaserCtx) :
    (p.learn i prevBand c).computed = true ∧ (p.learn i prevBand c).recovered = false ∧
      (p.learn i prevBand c).raises = [] := by
  unfold Part.learn
  dsimp only
  split
  · exact ⟨rfl, rfl, rfl⟩
  · split <;> exact ⟨rfl, rfl, rfl⟩

/-- While TRACKING_ERROR is not present an update counts towards it, and raises it at the count (R56). -/
theorem judgeTracking_absent (p : Part) (i : Fin 4) (o : UpdateOut)
    (h : p.isPresent .trackingError (phaserUnit i) = false) (track : Nat)
    (ht : track = if o.ctx.tr = o.ctx.ta ∧ (p.phaserCfg i).trackLimit < o.ctx.err.natAbs then o.ctx.track + 1 else 0) :
    p.judgeTracking i o = { o with
      ctx := { o.ctx with track := min track (p.phaserCfg i).trackCount },
      raises := if (p.phaserCfg i).trackLimit < o.ctx.err.natAbs ∧ o.ctx.tr = o.ctx.ta ∧
        (p.phaserCfg i).trackCount ≤ track then o.raises ++ [(.trackingError, detailOf o.ctx.err)] else o.raises } := by
  subst ht
  unfold Part.judgeTracking
  simp only [h, gt_iff_lt, decide_eq_true_eq, ge_iff_le, Bool.false_eq_true, if_false]
  split <;> split <;> rfl

/-- While TRACKING_ERROR is present an update counts towards its end (R57). -/
theorem judgeTracking_present (p : Part) (i : Fin 4) (o : UpdateOut)
    (h : p.isPresent .trackingError (phaserUnit i) = true) (recov : Nat)
    (hr : recov = if (p.phaserCfg i).trackLimit < o.ctx.err.natAbs then 0 else o.ctx.recov + 1) :
    p.judgeTracking i o =
      if recov = 4 then { o with ctx := { o.ctx with recov := 0, track := 0 }, recovered := true }
      else { o with ctx := { o.ctx with recov := recov } } := by
  subst hr
  unfold Part.judgeTracking
  simp only [h, if_true, gt_iff_lt, decide_eq_true_eq]

end Sys2Proof.Machine.PhaserSequencing
end

section
/-! SUPPORT. The update by the state it finds (O37). -/

namespace Sys2Proof.Machine.PhaserSequencing

/-! ## The rule by state -/

section
variable {p : Part} {i : Fin 4} {c : PhaserCtx}

theorem updateBody_parked (hs : c.state = .parked) :
    p.updateBody i c = .plain (if p.startHolds i c then c.toUnlocking (p.phaserCfg i).unlockDuty else c) := by
  simp only [Part.updateBody, hs]

theorem updateBody_stops (hs : c.state = .unlocking ∨ c.state = .tracking ∨ c.state = .holding)
    (h : p.stopHolds c = true) : p.updateBody i c = p.stop i c := by
  rcases hs with hs | hs | hs <;> simp only [Part.updateBody, hs, h, if_true]

theorem updateBody_unlocking (hs : c.state = .unlocking) (h : p.stopHolds c ≠ true) :
    p.updateBody i c = p.unlockUpdate i c := by
  simp only [Part.updateBody, hs, h, Bool.false_eq_true, if_false]

theorem updateBody_tracking (hs : c.state = .tracking) (h : p.stopHolds c ≠ true) :
    p.updateBody i c = p.trackFromFreeze i c := by
  simp only [Part.updateBody, hs, h, Bool.false_eq_true, if_false]

theorem updateBody_held (hs : c.state = .holding) (h : p.stopHolds c ≠ true)
    (hold : c.freeze = true ∨ c.held = true) : p.updateBody i c = p.holdCompute i c := by
  have stays : ¬(c.freeze = false ∧ c.held = false) := by
    rintro ⟨hf, hh⟩
    simp [hf, hh] at hold
  simp only [Part.updateBody, hs, h, stays, Bool.false_eq_true, if_false]

theorem updateBody_unheld (hs : c.state = .holding) (h : p.stopHolds c ≠ true)
    (hf : c.freeze = false) (hh : c.held = false) :
    p.updateBody i c = p.trackFromRamp i { c with state := .tracking, settle := 0 } := by
  simp only [Part.updateBody, hs, h, hf, hh, and_self, Bool.false_eq_true, if_true, if_false]

theorem updateBody_returning (hs : c.state = .returning) : p.updateBody i c = p.returnUpdate i c := by
  simp only [Part.updateBody, hs]

theorem updateBody_faulted (hs : c.state = .faulted) : p.updateBody i c = .plain c := by
  simp only [Part.updateBody, hs]

/-- A frozen phaser under control computes as HOLDING (R55, R58). -/
theorem trackFromFreeze_frozen (hf : c.freeze = true) :
    p.trackFromFreeze i c = p.holdCompute i { c with state := .holding, settle := 0 } := if_pos hf

theorem trackFromFreeze_free (hf : c.freeze = false) : p.trackFromFreeze i c = p.trackFromRamp i c := by
  simp [Part.trackFromFreeze, hf]

/-- The first update under control after a release ramps once, and its error is too young to be raised (R52, R56). -/
theorem trackFromRamp_released (ht : c.track = 0) (hr : c.recov = 0) (hc : 1 < (p.phaserCfg i).trackCount) :
    (p.trackFromRamp i c).raises = [] ∧ (p.trackFromRamp i c).recovered = false ∧
      (p.trackFromRamp i c).ctx.state = c.state ∧ (p.trackFromRamp i c).ctx.edges = c.edges ∧
      (p.trackFromRamp i c).ctx.run = c.run ∧
      (p.trackFromRamp i c).ctx.tr = (rampStep (p.phaserCfg i).slew c).tr := by
  have ramped := rampStep_eq (p.phaserCfg i).slew c
  unfold Part.trackFromRamp
  dsimp only
  generalize hd : rampStep (p.phaserCfg i).slew c = d at ramped
  have keeps := learn_compute_keeps p i d.band d
  obtain ⟨_, recovered, raises⟩ := learn_outcome p i d.band (p.compute i d)
  generalize p.learn i d.band (p.compute i d) = o at keeps recovered raises
  have track : o.ctx.track = 0 := by rw [keeps.track, ramped]; exact ht
  have recov : o.ctx.recov = 0 := by rw [keeps.recov, ramped]; exact hr
  have state : o.ctx.state = c.state := by rw [keeps.state, ramped]
  have edges : o.ctx.edges = c.edges := by rw [keeps.edges, ramped]
  have run : o.ctx.run = c.run := by rw [keeps.run, ramped]
  cases hp : p.isPresent .trackingError (phaserUnit i) with
  | true =>
    have young : (if (p.phaserCfg i).trackLimit < o.ctx.err.natAbs then 0 else o.ctx.recov + 1) ≠ 4 := by
      rw [recov]; split <;> omega
    rw [judgeTracking_present p i o hp _ rfl, if_neg young]
    exact ⟨raises, recovered, state, edges, run, keeps.tr⟩
  | false =>
    have young : ¬((p.phaserCfg i).trackLimit < o.ctx.err.natAbs ∧ o.ctx.tr = o.ctx.ta ∧ (p.phaserCfg i).trackCount ≤
        if o.ctx.tr = o.ctx.ta ∧ (p.phaserCfg i).trackLimit < o.ctx.err.natAbs then o.ctx.track + 1 else 0) := by
      rw [track]
      rintro ⟨_, _, h⟩
      split at h <;> omega
    rw [judgeTracking_absent p i o hp _ rfl, if_neg young]
    exact ⟨raises, recovered, state, edges, run, keeps.tr⟩

end

/-! ## The context after an update -/

section
variable {p : Part} {m : Mem} {i : Fin 4} {phase : Int} {confirm : Bool}
  (h : p.isPresent .oilLow (phaserUnit i) = false ∨ p.xu.oilPressure < p.cfg.holdPressure)
include h

/-- An update whose outcome raises nothing leaves its context. -/
theorem update_context {o : UpdateOut} (hb : p.updateBody i (takenContext p i phase confirm) = o) (hr : o.raises = [])
    (hf : o.ctx.state = .faulted → (vget p.phasers i).state = .faulted ∧ o.recovered = false) :
    vget (p.phaserUpdate m i phase confirm).phasers i = o.ctx := by
  rw [phaserUpdate_eq m i phase confirm p h, hb]
  exact finishUpdate_context m i _ o _ hr hf

/-- An update that finds its phaser stuck faults it. -/
theorem update_stuck {k : Kind} {d : Detail} {c : PhaserCtx} (hk : k = .lockStuck ∨ k = .returnStuck)
    (hb : p.updateBody i (takenContext p i phase confirm) = { UpdateOut.plain c with raises := [(k, d)] })
    (hw : (vget p.phasers i).state = c.state) (hf : c.state ≠ .faulted) :
    vget (p.phaserUpdate m i phase confirm).phasers i = c.toFaulted ∧
      (p.phaserUpdate m i phase confirm).isLatched k (phaserUnit i) = true ∧
      (p.phaserUpdate m i phase confirm).xu.attn.getLsbD 1 = true := by
  rw [phaserUpdate_eq m i phase confirm p h, hb]
  exact finishUpdate_stuck m i _ _ _ k d hk rfl hw rfl hf

/-- An update that finds a stop condition stops. -/
theorem update_stop (hs : (vget p.phasers i).state = .unlocking ∨ (vget p.phasers i).state = .tracking ∨
      (vget p.phasers i).state = .holding) (hc : p.stopHolds (takenContext p i phase confirm) = true) :
    vget (p.phaserUpdate m i phase confirm).phasers i =
        (takenContext p i phase confirm).toReturning (p.phaserCfg i).parkDuty ∧
      (p.xu.oilPressure < p.cfg.holdPressure →
        (p.phaserUpdate m i phase confirm).isLatched .oilLow (phaserUnit i) = true ∧
        (p.phaserUpdate m i phase confirm).isPresent .oilLow (phaserUnit i) = true ∧
        (p.phaserUpdate m i phase confirm).xu.attn.getLsbD 1 = true) := by
  rw [phaserUpdate_eq m i phase confirm p h, updateBody_stops (c := takenContext p i phase confirm) hs hc]
  obtain ⟨context, oil⟩ := finishUpdate_stop m i (vget p.phasers i).state (takenContext p i phase confirm) p
    (p.storePhaser i (takenContext p i phase confirm))
  exact ⟨context, fun hl => oil (decide_eq_true hl)⟩

/-- A PARKED phaser is unlocked when every start condition holds, and else left (R50, R51). -/
theorem update_parked (hs : (vget p.phasers i).state = .parked) :
    vget (p.phaserUpdate m i phase confirm).phasers i =
      if p.startHolds i (takenContext p i phase confirm)
      then (takenContext p i phase confirm).toUnlocking (p.phaserCfg i).unlockDuty
      else takenContext p i phase confirm := by
  refine update_context h (updateBody_parked hs) rfl fun hf => ?_
  have parked : (takenContext p i phase confirm).state = .parked := hs
  dsimp only [UpdateOut.plain] at hf
  split at hf
  · cases hf
  · cases parked.symm.trans hf

/-- An UNLOCKING phaser short of its second edge counts it, or is stuck at the limit (R52). -/
theorem update_unlocking_waits (hs : (vget p.phasers i).state = .unlocking)
    (hc : p.stopHolds (takenContext p i phase confirm) ≠ true)
    (hrun : (counted (decide (20 ≤ phase)) (takenContext p i phase confirm)).run < 2) :
    ((vget p.phasers i).edges + 1 < (p.phaserCfg i).unlockEdges →
      vget (p.phaserUpdate m i phase confirm).phasers i =
        counted (decide (20 ≤ phase)) (takenContext p i phase confirm)) ∧
    ((p.phaserCfg i).unlockEdges ≤ (vget p.phasers i).edges + 1 →
      vget (p.phaserUpdate m i phase confirm).phasers i =
        (counted (decide (20 ≤ phase)) (takenContext p i phase confirm)).toFaulted ∧
      (p.phaserUpdate m i phase confirm).isLatched .lockStuck (phaserUnit i) = true ∧
      (p.phaserUpdate m i phase confirm).xu.attn.getLsbD 1 = true) := by
  have unlocking : (takenContext p i phase confirm).state = .unlocking := hs
  have body := updateBody_unlocking (i := i) unlocking hc
  exact ⟨fun hedges => update_context h (body.trans (unlockUpdate_counts p i _ hrun hedges)) rfl
      fun hf => PhaserState.noConfusion (unlocking.symm.trans hf),
    fun hedges => update_stuck h (.inl rfl) (body.trans (unlockUpdate_stuck p i _ hrun hedges)) rfl
      fun hf => PhaserState.noConfusion (unlocking.symm.trans hf)⟩

/-- The second edge in a row releases an UNLOCKING phaser (R52): frozen, it computes as HOLDING. -/
theorem update_released_frozen (hs : (vget p.phasers i).state = .unlocking)
    (hc : p.stopHolds (takenContext p i phase confirm) ≠ true)
    (hrun : 2 ≤ (counted (decide (20 ≤ phase)) (takenContext p i phase confirm)).run)
    (hf : (vget p.demand i).freeze = true) :
    vget (p.phaserUpdate m i phase confirm).phasers i = { p.compute i
      { (takenContext p i phase confirm).toTracking (p.phaserCfg i).stroke with state := .holding } with
        settle := 0 } := by
  have unlocking : (takenContext p i phase confirm).state = .unlocking := hs
  have frozen : ((takenContext p i phase confirm).toTracking (p.phaserCfg i).stroke).freeze = true := hf
  exact update_context h ((updateBody_unlocking unlocking hc).trans ((unlockUpdate_releases p i _ hrun).trans
    (trackFromFreeze_frozen frozen))) rfl PhaserState.noConfusion

/-- The second edge in a row releases an UNLOCKING phaser (R52): free, it ramps once from the phase, TRACKING. -/
theorem update_released_free (hs : (vget p.phasers i).state = .unlocking)
    (hc : p.stopHolds (takenContext p i phase confirm) ≠ true)
    (hrun : 2 ≤ (counted (decide (20 ≤ phase)) (takenContext p i phase confirm)).run)
    (hf : (vget p.demand i).freeze = false) (hcount : 1 < (p.phaserCfg i).trackCount) :
    (vget (p.phaserUpdate m i phase confirm).phasers i).state = .tracking ∧
      (vget (p.phaserUpdate m i phase confirm).phasers i).edges = 0 ∧
      (vget (p.phaserUpdate m i phase confirm).phasers i).run = 0 ∧
      (vget (p.phaserUpdate m i phase confirm).phasers i).tr = (rampStep (p.phaserCfg i).slew
        ((takenContext p i phase confirm).toTracking (p.phaserCfg i).stroke)).tr := by
  have unlocking : (takenContext p i phase confirm).state = .unlocking := hs
  have free : ((takenContext p i phase confirm).toTracking (p.phaserCfg i).stroke).freeze = false := hf
  obtain ⟨raises, recovered, state, edges, run, tr⟩ := trackFromRamp_released (p := p) (i := i)
    (c := (takenContext p i phase confirm).toTracking (p.phaserCfg i).stroke) rfl rfl hcount
  rw [update_context h ((updateBody_unlocking unlocking hc).trans ((unlockUpdate_releases p i _ hrun).trans
    (trackFromFreeze_free free))) raises fun hfault => PhaserState.noConfusion (state.symm.trans hfault)]
  exact ⟨state, edges, run, tr⟩

/-- A TRACKING phaser that is frozen computes as HOLDING (R55). -/
theorem update_tracking_frozen (hs : (vget p.phasers i).state = .tracking)
    (hc : p.stopHolds (takenContext p i phase confirm) ≠ true) (hf : (vget p.demand i).freeze = true) :
    vget (p.phaserUpdate m i phase confirm).phasers i =
      { p.compute i { takenContext p i phase confirm with state := .holding } with settle := 0 } := by
  have tracking : (takenContext p i phase confirm).state = .tracking := hs
  have frozen : (takenContext p i phase confirm).freeze = true := hf
  exact update_context h ((updateBody_tracking tracking hc).trans (trackFromFreeze_frozen frozen)) rfl
    PhaserState.noConfusion

/-- A HOLDING phaser computes as long as the freeze or the selector's hold lasts (R58). -/
theorem update_holding (hs : (vget p.phasers i).state = .holding)
    (hc : p.stopHolds (takenContext p i phase confirm) ≠ true)
    (hold : (vget p.demand i).freeze = true ∨ (vget p.phasers i).held = true) :
    vget (p.phaserUpdate m i phase confirm).phasers i =
      { p.compute i (takenContext p i phase confirm) with settle := 0 } := by
  have holding : (takenContext p i phase confirm).state = .holding := hs
  exact update_context h (updateBody_held holding hc hold) rfl fun hf =>
    PhaserState.noConfusion (holding.symm.trans hf)

/-- A RETURNING phaser parks at its second edge in a row, counts before it, or is stuck at the limit (R61). -/
theorem update_returning (hs : (vget p.phasers i).state = .returning) :
    (2 ≤ (counted (decide (phase ≤ 5)) (takenContext p i phase confirm)).run →
      vget (p.phaserUpdate m i phase confirm).phasers i = (takenContext p i phase confirm).toParked true) ∧
    ((counted (decide (phase ≤ 5)) (takenContext p i phase confirm)).run < 2 →
      ((vget p.phasers i).edges + 1 < (p.phaserCfg i).returnEdges →
        vget (p.phaserUpdate m i phase confirm).phasers i =
          counted (decide (phase ≤ 5)) (takenContext p i phase confirm)) ∧
      ((p.phaserCfg i).returnEdges ≤ (vget p.phasers i).edges + 1 →
        vget (p.phaserUpdate m i phase confirm).phasers i =
          (counted (decide (phase ≤ 5)) (takenContext p i phase confirm)).toFaulted ∧
        (p.phaserUpdate m i phase confirm).isLatched .returnStuck (phaserUnit i) = true ∧
        (p.phaserUpdate m i phase confirm).xu.attn.getLsbD 1 = true)) := by
  have returning : (takenContext p i phase confirm).state = .returning := hs
  have body := updateBody_returning (p := p) (i := i) returning
  exact ⟨fun hrun => update_context h (body.trans (returnUpdate_parks p i _ hrun)) rfl PhaserState.noConfusion,
    fun hrun =>
      ⟨fun hedges => update_context h (body.trans (returnUpdate_counts p i _ hrun hedges)) rfl
        fun hf => PhaserState.noConfusion (returning.symm.trans hf),
      fun hedges => update_stuck h (.inr rfl) (body.trans (returnUpdate_stuck p i _ hrun hedges)) rfl
        fun hf => PhaserState.noConfusion (returning.symm.trans hf)⟩⟩

/-- A FAULTED phaser takes the measurement and the demand alone (R64). -/
theorem update_faulted (hs : (vget p.phasers i).state = .faulted) :
    vget (p.phaserUpdate m i phase confirm).phasers i = takenContext p i phase confirm :=
  have faulted : (takenContext p i phase confirm).state = .faulted := hs
  update_context h (updateBody_faulted faulted) rfl fun _ => ⟨hs, rfl⟩

/-- What an update leaves besides the phaser (R48). -/
theorem update_leaves : (p.phaserUpdate m i phase confirm).xu.cycle = p.xu.cycle ∧
    (p.phaserUpdate m i phase confirm).demand = p.demand ∧ (p.phaserUpdate m i phase confirm).config = p.config ∧
    (p.phaserUpdate m i phase confirm).angle = p.angle ∧ (p.phaserUpdate m i phase confirm).passes = p.passes := by
  rw [phaserUpdate_eq m i phase confirm p h]
  obtain ⟨cycle, demand, config, angle, passes⟩ := finishUpdate_leaves m i (vget p.phasers i).state
    (p.updateBody i (takenContext p i phase confirm)) (p.storePhaser i (takenContext p i phase confirm))
  have stored := storePhaser_onOutputs i (takenContext p i phase confirm) p
  exact ⟨cycle.trans stored.cycle, demand.trans stored.demand, config.trans stored.config, angle.trans stored.angle,
    passes.trans stored.passes⟩

/-- A duty that an update changes is the output's new request (R46). -/
theorem update_told : DutyTold i (vget p.phasers i).duty (p.phaserUpdate m i phase confirm) := by
  rw [phaserUpdate_eq m i phase confirm p h]
  refine finishUpdate_told m i _ _ _ _ fun hd => absurd ?_ hd
  rw [(storePhaser_stored i _ p).phasers, vget_vset_same, takenContext_duty]

end

/-- The release takes Tr from the phase, within the stroke (R52). -/
theorem toTracking_eq (stroke : Nat) (c : PhaserCtx) : c.toTracking stroke = { c with
    state := .tracking, integ := 0, settle := 0, edges := 0, run := 0, track := 0, recov := 0,
    tr := (max 0 (min (stroke : Int) c.phase)).toNat } := by
  rw [← clampInt_eq 0 stroke c.phase (by omega)]
  rfl

/-- Settles O37: the update is the hand-out of what the rule of the state makes of the taken context
(`phaserUpdate_eq`), state by state. -/
theorem anUpdateFollowsThePhasersState : Obligations.AnUpdateFollowsThePhasersState := by
  unfold Obligations.AnUpdateFollowsThePhasersState
  intro p m i phase confirm h q g old d c becomes stops starts run
  have stop : p.stopHolds (takenContext p i phase confirm) = true ↔ stops := stopHolds_iff p c
  have start : p.startHolds i (takenContext p i phase confirm) = true ↔ starts := startHolds_iff p i c
  refine ⟨update_leaves h, update_told h, fun hs => ⟨fun hst => ?_, fun hst => ?_⟩,
    fun hs hst => update_stop h hs (stop.mpr hst), fun hs hst => ?_,
    fun hs hst hf => update_tracking_frozen h hs (mt stop.mp hst) hf,
    fun hs hst hold => update_holding h hs (mt stop.mp hst) hold, fun hs => ?_, fun hs => update_faulted h hs⟩
  · exact (update_parked h hs).trans (if_pos (start.mpr hst))
  · exact (update_parked h hs).trans (if_neg (mt start.mp hst))
  · have waits := update_unlocking_waits (m := m) h hs (mt stop.mp hst)
    refine ⟨fun hrun => (waits hrun).1, fun hrun => (waits hrun).2, fun hrun => ⟨fun hf => ?_, fun hf hcount => ?_⟩⟩
    · have frozen := update_released_frozen (m := m) h hs (mt stop.mp hst) hrun hf
      rw [toTracking_eq] at frozen
      exact frozen
    · have free := update_released_free (m := m) h hs (mt stop.mp hst) hrun hf hcount
      rw [rampStep_eq, toTracking_eq] at free
      exact free
  · have returning := update_returning (m := m) (phase := phase) (confirm := confirm) h hs
    exact ⟨returning.1, fun hrun => (returning.2 hrun).1, fun hrun => (returning.2 hrun).2⟩

end Sys2Proof.Machine.PhaserSequencing
end

section
/-! SUPPORT. The tracking update (O38): its outcome, the learned entry and the extremes record it hands over, and the
judgement of the error with the reactions of TRACKING_ERROR. -/

namespace Sys2Proof.Machine.PhaserSequencing

/-! ## The outcome of a tracking update (R55, R58) -/

/-- The context that the computation of a tracking update finds: the measurement and the demand taken, TRACKING, Tr
ramped (R55, R58). -/
def trackedContext (p : Part) (i : Fin 4) (phase : Int) : PhaserCtx :=
  let old := vget p.phasers i
  let d := vget p.demand i
  let g := p.phaserCfg i
  { old with
    phase := phase, stretched := false, lastUpdate := p.xu.cycle, enabled := d.enable, ta := d.target,
    freeze := d.freeze, state := .tracking, settle := if old.state = .holding then 0 else old.settle,
    tr := if g.slew = 0 then d.target else
      ((old.tr : Int) + max (-(g.slew : Int)) (min (g.slew : Int) ((d.target : Int) - old.tr))).toNat }

/-- The outcome of a tracking update before its error is judged: computed and learned. -/
def learnedOutcome (p : Part) (i : Fin 4) (phase : Int) : UpdateOut :=
  p.learn i (vget p.phasers i).band (p.compute i (trackedContext p i phase))

theorem learnedOutcome_keeps (p : Part) (i : Fin 4) (phase : Int) :
    KeepsMachine (trackedContext p i phase) (learnedOutcome p i phase).ctx := learn_compute_keeps p i _ _

/-- Under control with no stop condition, no freeze and no hold, the rule of the state is the judged outcome. -/
theorem updateBody_tracks (p : Part) (i : Fin 4) (phase : Int) (confirm : Bool)
    (hc : p.stopHolds (takenContext p i phase confirm) ≠ true) (hf : (vget p.demand i).freeze = false)
    (hs : (vget p.phasers i).state = .tracking ∨
      ((vget p.phasers i).state = .holding ∧ (vget p.phasers i).held = false)) :
    p.updateBody i (takenContext p i phase confirm) = p.judgeTracking i (learnedOutcome p i phase) := by
  have free : (takenContext p i phase confirm).freeze = false := hf
  rcases hs with hs | ⟨hs, hh⟩
  · have tracking : (takenContext p i phase confirm).state = .tracking := hs
    have ramped : rampStep (p.phaserCfg i).slew (takenContext p i phase confirm) = trackedContext p i phase := by
      rw [rampStep_eq]
      simp [takenContext, PhaserCtx.take, trackedContext, hs]
    rw [updateBody_tracking tracking hc, trackFromFreeze_free free]
    unfold Part.trackFromRamp
    rw [ramped]
    rfl
  · have holding : (takenContext p i phase confirm).state = .holding := hs
    have ramped : rampStep (p.phaserCfg i).slew { takenContext p i phase confirm with state := .tracking, settle := 0 } =
        trackedContext p i phase := by
      rw [rampStep_eq]
      simp [takenContext, PhaserCtx.take, trackedContext, hs]
    rw [updateBody_unheld holding hc free hh]
    unfold Part.trackFromRamp
    rw [ramped]
    rfl

/-- The judgement of the error leaves what the computation and the learning made. -/
theorem judgeTracking_keeps (p : Part) (i : Fin 4) (o : UpdateOut) :
    (p.judgeTracking i o).entry = o.entry ∧ (p.judgeTracking i o).computed = o.computed ∧
      (p.judgeTracking i o).ctx.err = o.ctx.err ∧ (p.judgeTracking i o).ctx.duty = o.ctx.duty ∧
      (p.judgeTracking i o).ctx.band = o.ctx.band ∧ (p.judgeTracking i o).ctx.state = o.ctx.state := by
  cases hp : p.isPresent .trackingError (phaserUnit i) with
  | true =>
    obtain ⟨recov, hr⟩ : ∃ n, n = if (p.phaserCfg i).trackLimit < o.ctx.err.natAbs then 0 else o.ctx.recov + 1 :=
      ⟨_, rfl⟩
    rw [judgeTracking_present p i o hp recov hr]
    split <;> exact ⟨rfl, rfl, rfl, rfl, rfl, rfl⟩
  | false =>
    rw [judgeTracking_absent p i o hp _ rfl]
    exact ⟨rfl, rfl, rfl, rfl, rfl, rfl⟩

/-! ## The learned entry and the extremes record (R78, R86) -/

theorem storeEntry_holdTable (n : Fin 32) (e : Option HoldEntry) (p : Part) :
    (storeEntry n e p).holdTable = e.elim p.holdTable fun e => vset p.holdTable n e := by
  cases e <;> rfl

/-- The hold table after an update: the learned entry, if there is one. -/
theorem finishUpdate_holdTable (m : Mem) (i : Fin 4) (was : PhaserState) (o : UpdateOut) (p : Part) :
    (p.finishUpdate m i was o).holdTable =
      o.entry.elim p.holdTable fun e => vset p.holdTable (holdIndex i o.ctx.band) e := by
  have extremes : ∀ q : Part,
      (if o.computed = true then q.updateExtremes m i o.ctx else q).holdTable = q.holdTable := by
    intro q
    split <;> rfl
  have noted : ∀ q : Part, (if o.limited = true then q.note .learnLimit (phaserUnit i) (detailOf o.ctx.band) else q).holdTable
      = q.holdTable := by
    intro q
    split
    · rw [note_frame]
    · rfl
  rw [(finishUpdate_outward m i was o p).holdTable]
  unfold reported
  dsimp only [Part.writePhaser]
  rw [Part.handOver_holdTable, noted, storeEntry_holdTable, extremes, (storePhaser_onOutputs i o.ctx p).holdTable]

/-- A record that covers no word at an address changes nothing that is seen there. -/
theorem pendingWord_append (rs ts : List Record) (a : Nat) (h : ∀ r ∈ ts, r.kind.covers a = false) :
    pendingWord (rs ++ ts) a = pendingWord rs a := by
  unfold pendingWord
  rw [List.foldl_append]
  generalize List.foldl _ none rs = found
  induction ts generalizing found with
  | nil => rfl
  | cons t ts ih =>
    rw [List.foldl_cons, h t (List.mem_cons_self ..)]
    exact ih (fun r hr => h r (List.mem_cons_of_mem _ hr)) found

/-- The words below the fault summary are seen as they were after what reaches the outputs. -/
theorem OnOutputs.seen {p q : Part} (h : OnOutputs p q) (m : Mem) (a : Nat) (ha : a < 0x060) :
    q.seen m a = p.seen m a := by
  obtain ⟨rs, hrs, hk⟩ := h.records
  have off : ∀ r ∈ rs, r.kind.covers a = false := by
    intro r hr
    rcases hk r hr with e | e <;> simp only [RecordKind.covers, e, RecordKind.base, decide_eq_false_iff_not] <;> omega
  simp only [Part.seen, hrs, pendingWord_append _ _ _ off]

/-- The words of the extremes record that an update with this e and D hands over, against the words found (R86). -/
def extremesWords (w : Nat → Word) (err : Int) (duty cycle : Nat) : List Word :=
  let worse := decide ((err.natAbs : Int) > max (w 0).toInt (-(w 1).toInt))
  [wordOfInt (max (w 0).toInt err), wordOfInt (min (w 1).toInt err), wordOfNat (max (w 2).toNat duty),
   wordOfNat (min (w 3).toNat duty), if worse then wordOfNat cycle else w 4, if worse then highWord cycle else w 5, 0, 0]

theorem updateExtremes_eq (m : Mem) (i : Fin 4) (c : PhaserCtx) (p : Part) :
    p.updateExtremes m i c =
      p.handOver (.extremes i) (extremesWords (fun n => p.seen m (extremesBase i + n)) c.err c.duty p.xu.cycle) := rfl

/-- The extremes record reads its words no further than the fault summary. -/
theorem extremesWords_congr (v w : Nat → Word) (h : ∀ n, n < 8 → v n = w n) (err : Int) (duty cycle : Nat) :
    extremesWords v err duty cycle = extremesWords w err duty cycle := by
  simp only [extremesWords, h 0 (by omega), h 1 (by omega), h 2 (by omega), h 3 (by omega), h 4 (by omega),
    h 5 (by omega)]

/-- An update that computes hands the extremes record over, against the words that stood before it. -/
theorem finishUpdate_extremes (m : Mem) (i : Fin 4) (was : PhaserState) (o : UpdateOut) (p : Part)
    (hc : o.computed = true) : ∃ r ∈ (p.finishUpdate m i was o).xu.records, r.kind = .extremes i ∧ r.done = 0 ∧
      r.words = extremesWords (fun n => p.seen m (extremesBase i + n)) o.ctx.err o.ctx.duty p.xu.cycle := by
  have stored := storePhaser_onOutputs i o.ctx p
  have words := extremesWords_congr (fun n => (p.storePhaser i o.ctx).seen m (extremesBase i + n))
    (fun n => p.seen m (extremesBase i + n))
    (fun n hn => stored.seen m _ (by unfold extremesBase; omega)) o.ctx.err o.ctx.duty p.xu.cycle
  obtain ⟨after, hafter⟩ := (finishUpdate_outward m i was o p).records
  have reports : Reports ((p.storePhaser i o.ctx).updateExtremes m i o.ctx)
      (reported m i o (p.storePhaser i o.ctx)) := by
    unfold reported
    dsimp only
    rw [if_pos hc]
    have noted : ∀ q, Reports q
        (if o.limited = true then q.note .learnLimit (phaserUnit i) (detailOf o.ctx.band) else q) := by
      intro q
      split
      · exact note_reports _ _ _ q
      · exact .refl q
    exact ((storeEntry_reports _ _ _).trans (noted _)).trans (handOver_reports _ _ _)
  obtain ⟨rest, hrest⟩ := reports.records
  refine ⟨{ kind := .extremes i, done := 0, released := false, words := _ }, ?_, rfl, rfl, words⟩
  rw [hafter, hrest, updateExtremes_eq, Part.handOver_records, stored.cycle]
  exact List.mem_append_left _ (List.mem_append_left _ (List.mem_append_right _ (List.mem_singleton_self _)))

/-! ## The reactions of TRACKING_ERROR (R56, R57, R62, R63) -/

section
variable (i : Fin 4) (d : Detail) (p : Part)

/-- With reaction proceed a raise latches the kind and leaves the phaser. -/
theorem raise_proceed {k : Kind} (h : p.cfg.reaction k = some .proceed) :
    vget (p.raise k (phaserUnit i) d true).phasers i = vget p.phasers i ∧
      (p.raise k (phaserUnit i) d true).isLatched k (phaserUnit i) = true ∧
      (p.raise k (phaserUnit i) d true).isPresent k (phaserUnit i) = true := by
  refine ⟨?_, ?_, ?_⟩
  · rw [raise_phasers _ d true p h, react_phaser_proceed, latchedSummary_phasers]
  · rw [Part.isLatched, raise_latched _ d true p h, react_phaser_proceed]
    exact latchedSummary_isLatched k _ true p
  · rw [Part.isPresent, raise_present _ d true p h, react_phaser_proceed]
    exact latchedSummary_isPresent k _ p

/-- With reaction PARK a raise sends a phaser under control to RETURNING. -/
theorem raise_park {k : Kind} (h : p.cfg.reaction k = some .park) (hk : k ≠ .openLoad)
    (hs : (vget p.phasers i).state = .tracking) :
    vget (p.raise k (phaserUnit i) d true).phasers i = (vget p.phasers i).toReturning (p.phaserCfg i).parkDuty ∧
      (p.raise k (phaserUnit i) d true).isLatched k (phaserUnit i) = true ∧
      (p.raise k (phaserUnit i) d true).isPresent k (phaserUnit i) = true := by
  have parked := parkPhaser_stored i (latchedSummary k (phaserUnit i) true p) (.inr (.inl (by simpa using hs)))
  have cfg : (latchedSummary k (phaserUnit i) true p).phaserCfg i = p.phaserCfg i := by
    unfold Part.phaserCfg Part.cfg; rw [latchedSummary_config]
  refine ⟨?_, ?_, ?_⟩
  · rw [raise_phasers _ d true p h, react_phaser_park, parked.phasers, vget_vset_same, latchedSummary_phasers, cfg]
  · rw [Part.isLatched, raise_latched _ d true p h, react_phaser_park, parked.latched]
    exact latchedSummary_isLatched k _ true p
  · rw [Part.isPresent, raise_present _ d true p h, react_phaser_park]
    exact (parked.present k _ hk).trans (latchedSummary_isPresent k _ p)

/-- The FORCE reaction of TRACKING_ERROR ends it at the entry into FAULTED, where the duty is 0; when it clears itself it
is latched no more (R57, R123). -/
theorem raise_tracking_force (h : p.cfg.reaction .trackingError = some .force)
    (hs : (vget p.phasers i).state ≠ .faulted) :
    (p.raise .trackingError (phaserUnit i) d true).isPresent .trackingError (phaserUnit i) = false ∧
    ((vget (p.raise .trackingError (phaserUnit i) d true).phasers i).state = .faulted ∨
      (vget (p.raise .trackingError (phaserUnit i) d true).phasers i).state = .parked) ∧
    (vget (p.raise .trackingError (phaserUnit i) d true).phasers i).duty = 0 ∧
    (p.cfg.selfClearing = true →
      (p.raise .trackingError (phaserUnit i) d true).isLatched .trackingError (phaserUnit i) = false) := by
  obtain ⟨q, hq, e⟩ := forcePhaser_stored i (latchedSummary .trackingError (phaserUnit i) true p) (by simpa using hs)
  have cfg : q.cfg = p.cfg := by unfold Part.cfg; rw [hq.config, latchedSummary_config]
  have present : q.isPresent .trackingError (phaserUnit i) = true :=
    (hq.present _ _ Kind.noConfusion).trans (latchedSummary_isPresent _ _ p)
  have faulted : vget q.phasers i = (vget p.phasers i).toFaulted := by
    rw [hq.phasers, vget_vset_same, latchedSummary_phasers]
  refine ⟨?_, ?_, ?_, fun hc => ?_⟩
  · rw [Part.isPresent, raise_present _ d true p h, react_phaser_force, e]
    exact (cease_isPresent _ _ _ _ q).trans (by simp)
  · rw [raise_phasers _ d true p h, react_phaser_force, e]
    rcases cease_phaser .trackingError (phaserUnit i) q i with e' | ⟨_, _, e'⟩
    · exact .inl (by rw [e', faulted]; rfl)
    · exact .inr (by rw [e']; rfl)
  · rw [raise_phasers _ d true p h, react_phaser_force, e, cease_duty, faulted]
    rfl
  · rw [Part.isLatched, raise_latched _ d true p h, react_phaser_force, e]
    exact cease_isLatched_same _ _ q (by rw [cfg]; exact hc) present

end

/-! ## The update under control -/

section
variable {p : Part} {m : Mem} {i : Fin 4} {phase : Int} {confirm : Bool} {o : UpdateOut}
  (h : p.isPresent .oilLow (phaserUnit i) = false ∨ p.xu.oilPressure < p.cfg.holdPressure)
  (hb : p.updateBody i (takenContext p i phase confirm) = o)
include h hb

/-- The hold table after an update. -/
theorem update_holdTable : (p.phaserUpdate m i phase confirm).holdTable =
    o.entry.elim p.holdTable fun e => vset p.holdTable (holdIndex i o.ctx.band) e := by
  rw [phaserUpdate_eq m i phase confirm p h, hb, finishUpdate_holdTable, (storePhaser_onOutputs i _ p).holdTable]

/-- The extremes record of an update that computes. -/
theorem update_extremes (hc : o.computed = true) : ∃ r ∈ (p.phaserUpdate m i phase confirm).xu.records,
    r.kind = .extremes i ∧ r.done = 0 ∧
      r.words = extremesWords (fun n => p.seen m (extremesBase i + n)) o.ctx.err o.ctx.duty p.xu.cycle := by
  rw [phaserUpdate_eq m i phase confirm p h, hb]
  have same : (p.storePhaser i (takenContext p i phase confirm)).xu = p.xu := by
    rw [storePhaser_same_duty i _ p (takenContext_duty p i phase confirm)]
  obtain ⟨r, hr, kind, done, words⟩ := finishUpdate_extremes m i (vget p.phasers i).state o
    (p.storePhaser i (takenContext p i phase confirm)) hc
  refine ⟨r, hr, kind, done, ?_⟩
  rw [words, same]
  simp only [Part.seen, same]

/-- The part as the ends and the raises of an update that stays TRACKING find it: the context stored, the faults and the
settings as they were. -/
theorem update_stays (hs : o.ctx.state = .tracking) : ∃ r, vget r.phasers i = o.ctx ∧ r.latched = p.latched ∧
    (∀ k, k ≠ .openLoad → r.isPresent k (phaserUnit i) = p.isPresent k (phaserUnit i)) ∧ r.config = p.config ∧
    p.phaserUpdate m i phase confirm =
      o.raises.foldl (fun p r => p.raise r.1 (phaserUnit i) r.2 r.1.raisedPresent)
        (if o.recovered = true then r.cease .trackingError (phaserUnit i) else r) := by
  have taken := storePhaser_stored i (takenContext p i phase confirm) p
  rw [phaserUpdate_eq m i phase confirm p h, hb, finishUpdate_eq]
  generalize p.storePhaser i (takenContext p i phase confirm) = base at taken
  have stored := reported_stored m i o base
  refine ⟨reported m i o (base.storePhaser i o.ctx), by rw [stored.phasers, vget_vset_same],
    stored.latched.trans taken.latched, fun k hk => (stored.present k _ hk).trans (taken.present k _ hk),
    stored.config.trans taken.config, ?_⟩
  unfold ended
  rw [endTracking_of_stay i _ _ _ (.inr ⟨by rw [hs]; exact PhaserState.noConfusion,
    by rw [hs]; exact PhaserState.noConfusion⟩)]

/-- An update that stays TRACKING and neither raises nor recovers. -/
theorem update_quiet (hs : o.ctx.state = .tracking) (hr : o.raises = []) (hn : o.recovered = false) :
    vget (p.phaserUpdate m i phase confirm).phasers i = o.ctx ∧
      (p.phaserUpdate m i phase confirm).isPresent .trackingError (phaserUnit i) =
        p.isPresent .trackingError (phaserUnit i) := by
  obtain ⟨r, context, _, present, _, e⟩ := update_stays h hb hs
  rw [e, hr, hn]
  exact ⟨context, present _ Kind.noConfusion⟩

/-- An update that stays TRACKING and recovers ends TRACKING_ERROR; a self-clearing one leaves the latched set
(R57, R123). -/
theorem update_recovers (hs : o.ctx.state = .tracking) (hr : o.raises = []) (hn : o.recovered = true)
    (hp : p.isPresent .trackingError (phaserUnit i) = true) :
    vget (p.phaserUpdate m i phase confirm).phasers i = o.ctx ∧
      (p.phaserUpdate m i phase confirm).isPresent .trackingError (phaserUnit i) = false ∧
      (p.cfg.selfClearing = true →
        (p.phaserUpdate m i phase confirm).isLatched .trackingError (phaserUnit i) = false) ∧
      (p.cfg.selfClearing = false → (p.phaserUpdate m i phase confirm).latched = p.latched) := by
  obtain ⟨r, context, latched, present, config, e⟩ := update_stays h hb hs
  have clears : r.cfg.clearsItself .trackingError = p.cfg.selfClearing := by unfold Part.cfg; rw [config]; rfl
  have found : r.isPresent .trackingError (phaserUnit i) = true := (present _ Kind.noConfusion).trans hp
  have unfaulted : (vget r.phasers i).state ≠ .faulted := by rw [context, hs]; exact PhaserState.noConfusion
  rw [e, hr, hn]
  refine ⟨(cease_phaser_of_ne _ _ r i unfaulted).trans context, (cease_isPresent _ _ _ _ r).trans (by simp),
    fun hc => cease_isLatched_same _ _ r (clears.trans hc) found,
    fun hc => (cease_latched_of_keeps _ _ r (clears.trans hc)).trans latched⟩

/-- An update that stays TRACKING and raises TRACKING_ERROR, by its reaction (R56, R57, R62, R63). -/
theorem update_raises {d : Detail} (hs : o.ctx.state = .tracking) (hr : o.raises = [(.trackingError, d)])
    (hn : o.recovered = false) :
    (p.phaserUpdate m i phase confirm).xu.attn.getLsbD 1 = true ∧
    (p.cfg.onTracking = .proceed → vget (p.phaserUpdate m i phase confirm).phasers i = o.ctx ∧
      (p.phaserUpdate m i phase confirm).isLatched .trackingError (phaserUnit i) = true ∧
      (p.phaserUpdate m i phase confirm).isPresent .trackingError (phaserUnit i) = true) ∧
    (p.cfg.onTracking = .park →
      vget (p.phaserUpdate m i phase confirm).phasers i = o.ctx.toReturning (p.phaserCfg i).parkDuty ∧
      (p.phaserUpdate m i phase confirm).isLatched .trackingError (phaserUnit i) = true ∧
      (p.phaserUpdate m i phase confirm).isPresent .trackingError (phaserUnit i) = true) ∧
    (p.cfg.onTracking = .force →
      (p.phaserUpdate m i phase confirm).isPresent .trackingError (phaserUnit i) = false ∧
      (p.cfg.selfClearing = false → vget (p.phaserUpdate m i phase confirm).phasers i = o.ctx.toFaulted ∧
        (p.phaserUpdate m i phase confirm).isLatched .trackingError (phaserUnit i) = true) ∧
      (p.cfg.selfClearing = true →
        ((vget (p.phaserUpdate m i phase confirm).phasers i).state = .faulted ∨
          (vget (p.phaserUpdate m i phase confirm).phasers i).state = .parked) ∧
        (vget (p.phaserUpdate m i phase confirm).phasers i).duty = 0 ∧
        (p.phaserUpdate m i phase confirm).isLatched .trackingError (phaserUnit i) = false)) := by
  obtain ⟨r, context, _, _, config, e⟩ := update_stays h hb hs
  have cfg : r.cfg = p.cfg := by unfold Part.cfg; rw [config]
  have phaserCfg : r.phaserCfg i = p.phaserCfg i := by unfold Part.phaserCfg; rw [cfg]
  have reaction : r.cfg.reaction .trackingError = some p.cfg.onTracking := by rw [cfg]; rfl
  have clears : r.cfg.clearsItself .trackingError = p.cfg.selfClearing := by rw [cfg]; rfl
  have tracking : (vget r.phasers i).state = .tracking := by rw [context, hs]
  have unfaulted : (vget r.phasers i).state ≠ .faulted := by rw [tracking]; exact PhaserState.noConfusion
  have raised : p.phaserUpdate m i phase confirm = r.raise .trackingError (phaserUnit i) d true := by
    rw [e, hr, hn]; rfl
  rw [raised]
  refine ⟨raise_attn _ _ _ _ _, fun hp => ?_, fun hp => ?_, fun hp => ?_⟩ <;> rw [hp] at reaction
  · rw [← context]
    exact raise_proceed i d r reaction
  · rw [← context, ← phaserCfg]
    exact raise_park i d r reaction Kind.noConfusion tracking
  · obtain ⟨present, state, duty, latched⟩ := raise_tracking_force i d r reaction unfaulted
    refine ⟨present, fun hc => ?_, fun hc => ⟨state, duty, latched (by rw [cfg]; exact hc)⟩⟩
    rw [← context]
    exact raise_force i d true r reaction unfaulted (.inr (clears.trans hc))

end

/-! ## The judged outcome (R56, R57) -/

section
variable {p : Part} {i : Fin 4} {o : UpdateOut}

/-- While TRACKING_ERROR is not present an error within the limit, or a target not reached, ends the count. -/
theorem judgeTracking_rests (h : p.isPresent .trackingError (phaserUnit i) = false)
    (hw : ¬((p.phaserCfg i).trackLimit < o.ctx.err.natAbs ∧ o.ctx.tr = o.ctx.ta)) :
    p.judgeTracking i o = { o with ctx := { o.ctx with track := 0 } } := by
  rw [judgeTracking_absent p i o h 0 (if_neg fun ⟨ht, hl⟩ => hw ⟨hl, ht⟩).symm, if_neg fun ⟨hl, ht, _⟩ => hw ⟨hl, ht⟩,
    Nat.zero_min]

/-- While TRACKING_ERROR is not present an error above the limit at the target counts, short of the count that raises. -/
theorem judgeTracking_counts (h : p.isPresent .trackingError (phaserUnit i) = false)
    (hl : (p.phaserCfg i).trackLimit < o.ctx.err.natAbs) (ht : o.ctx.tr = o.ctx.ta)
    (hc : o.ctx.track + 1 < (p.phaserCfg i).trackCount) :
    p.judgeTracking i o = { o with ctx := { o.ctx with track := o.ctx.track + 1 } } := by
  rw [judgeTracking_absent p i o h (o.ctx.track + 1) (if_pos ⟨ht, hl⟩).symm,
    if_neg fun ⟨_, _, hle⟩ => absurd hc (Nat.not_lt.mpr hle), Nat.min_eq_left (Nat.le_of_lt hc)]

/-- At the count the error is raised. -/
theorem judgeTracking_raises (h : p.isPresent .trackingError (phaserUnit i) = false)
    (hl : (p.phaserCfg i).trackLimit < o.ctx.err.natAbs) (ht : o.ctx.tr = o.ctx.ta)
    (hc : (p.phaserCfg i).trackCount ≤ o.ctx.track + 1) (hr : o.raises = []) :
    p.judgeTracking i o = { o with
      ctx := { o.ctx with track := (p.phaserCfg i).trackCount }, raises := [(.trackingError, detailOf o.ctx.err)] } := by
  rw [judgeTracking_absent p i o h (o.ctx.track + 1) (if_pos ⟨ht, hl⟩).symm, if_pos ⟨hl, ht, hc⟩, Nat.min_eq_right hc, hr]
  rfl

/-- While TRACKING_ERROR is present an error above the limit starts the count of its end anew. -/
theorem judgeTracking_persists (h : p.isPresent .trackingError (phaserUnit i) = true)
    (hl : (p.phaserCfg i).trackLimit < o.ctx.err.natAbs) :
    p.judgeTracking i o = { o with ctx := { o.ctx with recov := 0 } } := by
  rw [judgeTracking_present p i o h 0 (if_pos hl).symm]
  exact if_neg (by decide)

/-- An error within the limit counts towards the end of TRACKING_ERROR. -/
theorem judgeTracking_eases (h : p.isPresent .trackingError (phaserUnit i) = true)
    (hl : ¬(p.phaserCfg i).trackLimit < o.ctx.err.natAbs) (hc : o.ctx.recov < 3) :
    p.judgeTracking i o = { o with ctx := { o.ctx with recov := o.ctx.recov + 1 } } := by
  rw [judgeTracking_present p i o h _ (if_neg hl).symm]
  exact if_neg (by omega)

/-- The fourth in a row ends it. -/
theorem judgeTracking_recovers (h : p.isPresent .trackingError (phaserUnit i) = true)
    (hl : ¬(p.phaserCfg i).trackLimit < o.ctx.err.natAbs) (hc : o.ctx.recov = 3) :
    p.judgeTracking i o = { o with ctx := { o.ctx with recov := 0, track := 0 }, recovered := true } := by
  rw [judgeTracking_present p i o h _ (if_neg hl).symm]
  exact if_pos (by omega)

end

/-- Settles O38: the rule of an update under control is the judged outcome (`updateBody_tracks`); its entry and extremes
are the computation's (`judgeTracking_keeps`), and each branch of the judgement is handed out by `update_quiet`,
`update_raises` or `update_recovers`. -/
theorem aTrackingUpdateJudgesTheError : Obligations.ATrackingUpdateJudgesTheError := by
  unfold Obligations.ATrackingUpdateJudgesTheError
  intro p m i phase confirm hpress hoil q u g old d ramped c o wide becomes raised hen hspeed hfreeze hs
  have runs : p.stopHolds (takenContext p i phase confirm) ≠ true := fun hstop => by
    rcases (stopHolds_iff p _).mp hstop with he | hlow | hlow
    · exact Bool.noConfusion (he.symm.trans hen)
    · omega
    · omega
  have body : p.updateBody i (takenContext p i phase confirm) = p.judgeTracking i o :=
    updateBody_tracks p i phase confirm runs hfreeze hs
  have keeps : KeepsMachine c o.ctx := learnedOutcome_keeps p i phase
  obtain ⟨computed, quiet, unraised⟩ : o.computed = true ∧ o.recovered = false ∧ o.raises = [] := learn_outcome ..
  obtain ⟨sameEntry, sameComputed, sameErr, sameDuty, sameBand, sameState⟩ := judgeTracking_keeps p i o
  have tr : o.ctx.tr = ramped := keeps.tr
  have ta : o.ctx.ta = d.target := keeps.ta
  have track : o.ctx.track = old.track := keeps.track
  have recov : o.ctx.recov = old.recov := keeps.recov
  have tracking : o.ctx.state = .tracking := keeps.state
  refine ⟨?_, ?_, fun hp => ⟨fun hw => ?_, fun hw hr hc => ?_, fun hw hr hc => ?_⟩,
    fun hp => ⟨fun hw => ?_, fun hw hc => ?_, fun hw hc => ?_⟩⟩
  · have table := update_holdTable (m := m) (.inl hoil) body
    rw [sameEntry, sameBand] at table
    refine table.trans ?_
    cases o.entry <;> rfl
  · have extremes := update_extremes (m := m) (.inl hoil) body (sameComputed.trans computed)
    rw [sameErr, sameDuty] at extremes
    exact extremes
  · rw [← tr, ← ta] at hw
    obtain ⟨context, present⟩ := update_quiet (m := m) (.inl hoil) (body.trans (judgeTracking_rests hp hw)) tracking
      unraised quiet
    exact ⟨context, present.trans hp⟩
  · rw [← track] at hc ⊢
    obtain ⟨context, present⟩ := update_quiet (m := m) (.inl hoil)
      (body.trans (judgeTracking_counts hp hw (tr.trans (hr.trans ta.symm)) hc)) tracking unraised quiet
    exact ⟨context, present.trans hp⟩
  · rw [← track] at hc
    obtain ⟨attention, proceeds, parks, forces⟩ := update_raises (m := m) (.inl hoil)
      (body.trans (judgeTracking_raises hp hw (tr.trans (hr.trans ta.symm)) hc unraised)) tracking rfl quiet
    refine ⟨fun hk => ?_, fun hk => ?_, fun hk hself => ?_, fun hk hself => ?_⟩
    · obtain ⟨context, latched, present⟩ := proceeds hk
      exact ⟨context, ⟨latched, attention⟩, present⟩
    · obtain ⟨context, latched, present⟩ := parks hk
      exact ⟨context, ⟨latched, attention⟩, present⟩
    · obtain ⟨absent, stays, _⟩ := forces hk
      obtain ⟨context, latched⟩ := stays hself
      exact ⟨context, ⟨latched, attention⟩, absent⟩
    · obtain ⟨absent, _, leaves⟩ := forces hk
      obtain ⟨state, duty, unlatched⟩ := leaves hself
      exact ⟨state, duty, unlatched, absent⟩
  · obtain ⟨context, present⟩ := update_quiet (m := m) (.inl hoil) (body.trans (judgeTracking_persists hp hw)) tracking
      unraised quiet
    exact ⟨context, present.trans hp⟩
  · rw [← recov] at hc ⊢
    obtain ⟨context, present⟩ := update_quiet (m := m) (.inl hoil) (body.trans (judgeTracking_eases hp hw hc)) tracking
      unraised quiet
    exact ⟨context, present.trans hp⟩
  · exact update_recovers (m := m) (.inl hoil) (body.trans (judgeTracking_recovers hp hw (recov.trans hc))) tracking
      unraised rfl hp

end Sys2Proof.Machine.PhaserSequencing
end

section
/-! SUPPORT. The phase control computation (O40 to O42): the roundings and clamps by inequalities, the pressure factor,
the figures of the computation and the learning step. -/

namespace Sys2Proof.Machine.PhaseControl

open PhaserSequencing

/-! ## Roundings and clamps -/

/-- A quotient rounded half up, by a divisor that is not 0. -/
theorem roundHalfUp_bounds (n : Nat) {d : Nat} (hd : 0 < d) :
    2 * d * roundHalfUp n d ≤ 2 * n + d ∧ 2 * n + d < 2 * d * roundHalfUp n d + 2 * d := by
  rw [roundHalfUp, if_neg (Nat.ne_of_gt hd)]
  exact ⟨Nat.mul_div_le .., Nat.lt_mul_div_succ _ (by omega)⟩

/-- It is the nearest quotient, a tie going upward. -/
theorem roundHalfUp_nearest (n : Nat) {d : Nat} (hd : 0 < d) :
    2 * n < (2 * roundHalfUp n d + 1) * d ∧ (2 * roundHalfUp n d - 1) * d ≤ 2 * n := by
  obtain ⟨low, high⟩ := roundHalfUp_bounds n hd
  rw [Nat.mul_right_comm] at low high
  rw [Nat.add_mul, Nat.sub_mul, Nat.one_mul]
  omega

/-- `x` is n / d to the nearest integer, a tie going away from 0 (00, Rounding). -/
def NearestAway (n : Int) (d : Nat) (x : Int) : Prop :=
  (0 ≤ n → 2 * n - d < 2 * d * x ∧ 2 * d * x ≤ 2 * n + d) ∧ (n < 0 → 2 * n - d ≤ 2 * d * x ∧ 2 * d * x < 2 * n + d)

/-- Rounding half away rounds the magnitude half up and keeps the sign. -/
theorem roundHalfAway_eq (n : Int) {d : Nat} (hd : 0 < d) :
    roundHalfAway n d = if 0 ≤ n then (roundHalfUp n.natAbs d : Int) else -(roundHalfUp n.natAbs d : Int) := by
  rw [roundHalfAway, roundHalfUp, if_neg (Nat.ne_of_gt hd)]

theorem roundHalfAway_nearest (n : Int) {d : Nat} (hd : 0 < d) : NearestAway n d (roundHalfAway n d) := by
  obtain ⟨low, high⟩ := roundHalfUp_bounds n.natAbs hd
  have lowInt : (2 : Int) * d * roundHalfUp n.natAbs d ≤ 2 * n.natAbs + d := by exact_mod_cast low
  have highInt : (2 : Int) * n.natAbs + d < 2 * d * roundHalfUp n.natAbs d + 2 * d := by exact_mod_cast high
  rw [roundHalfAway_eq n hd]
  constructor <;> intro hn
  · rw [if_pos hn]
    omega
  · rw [if_neg (Int.not_le.mpr hn), Int.mul_neg]
    omega

theorem clampNat_eq (lo hi x : Nat) (h : lo ≤ hi) : clampNat lo hi x = min hi (max lo x) := by
  unfold clampNat
  split
  · omega
  · split <;> omega

/-- The limit of the integrator (R74). -/
theorem clampInteg_eq (ilim : Nat) (x : Int) :
    clampInteg ilim x = max (-((ilim : Int) * 256)) (min ((ilim : Int) * 256) x) := by
  have limit : ((ilim * 256 : Nat) : Int) = (ilim : Int) * 256 := Int.natCast_mul ilim 256
  rw [clampInteg, limit, clampInt_eq _ _ _ (by omega)]

/-! ## The pressure factor (R72) -/

theorem pressureFactor_stale {p : Part} (pnom : Nat) (h : p.stale = true) : p.pressureFactor pnom = 64 := if_pos h

theorem pressureFactor_dry {p : Part} (pnom : Nat) (h : p.stale = false) (hp : p.xu.oilPressure = 0) :
    p.pressureFactor pnom = 128 := by
  rw [Part.pressureFactor, if_neg (Bool.not_eq_true _ ▸ h), if_pos hp]

theorem pressureFactor_ratio {p : Part} (pnom : Nat) (h : p.stale = false) (hp : 0 < p.xu.oilPressure) :
    p.pressureFactor pnom = min 128 (max 32 (roundHalfUp (64 * pnom) p.xu.oilPressure)) := by
  rw [Part.pressureFactor, if_neg (Bool.not_eq_true _ ▸ h), if_neg (Nat.ne_of_gt hp), clampNat_eq _ _ _ (by omega)]

/-- Settles O40: the factor of the computation is `Part.pressureFactor`, whatever factor stood before, and its ratio is
the quotient that `roundHalfUp_nearest` pins. -/
theorem thePressureFactorFollowsTheOil : Obligations.ThePressureFactorFollowsTheOil := by
  unfold Obligations.ThePressureFactorFollowsTheOil
  intro p i c f poil
  refine ⟨pressureFactor_stale _, pressureFactor_dry _, fun fresh pressed => ?_, decide_eq_true_iff, fun _ => rfl⟩
  rw [Nat.mul_assoc 2 64]
  obtain ⟨below, above⟩ := roundHalfUp_nearest (64 * (p.phaserCfg i).pnom) pressed
  exact ⟨_, below, above, pressureFactor_ratio _ fresh pressed⟩

/-! ## The oil band (R70, Table 4-2) -/

theorem oilBand_le (t : Int) : oilBand t ≤ 7 := by
  unfold oilBand
  split <;> omega

/-- Band 0 is the band below 0 °C. -/
theorem oilBand_eq_zero (t : Int) : t < 0 ↔ oilBand t = 0 := by
  unfold oilBand
  split <;> omega

theorem oilBand_warm {t : Int} (h : 0 < oilBand t) : 0 ≤ t ∧ oilBand t = min 7 (t.toNat / 20 + 1) := by
  have warm : ¬t < 0 := fun cold => absurd ((oilBand_eq_zero t).mp cold) (Nat.ne_of_gt h)
  exact ⟨Int.not_lt.mp warm, if_neg warm⟩

/-- Band b from 1 on begins at 20 × (b − 1) °C. -/
theorem oilBand_begins (t : Int) (h : 0 < oilBand t) : (20 : Int) * oilBand t - 20 ≤ t := by
  obtain ⟨warm, band⟩ := oilBand_warm h
  omega

/-- Band b from 1 to 6 ends below 20 × b °C. -/
theorem oilBand_ends (t : Int) (h : 0 < oilBand t) (h7 : oilBand t < 7) : t < (20 : Int) * oilBand t := by
  obtain ⟨warm, band⟩ := oilBand_warm h
  omega

theorem bandFor_stale {p : Part} (c : PhaserCtx) (h : p.stale = true) : p.bandFor c = c.band := if_pos h

theorem bandFor_fresh {p : Part} (c : PhaserCtx) (h : p.stale = false) : p.bandFor c = oilBand p.xu.oilTemp :=
  if_neg (Bool.not_eq_true _ ▸ h)

/-! ## The stages (R71 to R76) -/

/-- A clamp to limits that are not negative and in order gives a figure within them: the duty (R75), a hold value
(R78). -/
theorem clampInt_toNat (lo hi : Nat) (raw : Int) (h : lo ≤ hi) :
    ((clampInt lo hi raw).toNat : Int) = max (lo : Int) (min (hi : Int) raw) ∧ lo ≤ (clampInt lo hi raw).toNat ∧
      (clampInt lo hi raw).toNat ≤ hi := by
  rw [clampInt_eq _ _ _ (by omega)]
  omega

/-- The limited integrator is within its limit. -/
theorem clampInteg_natAbs_le (ilim : Nat) (x : Int) : (clampInteg ilim x).natAbs ≤ ilim * 256 := by
  rw [clampInteg_eq]
  omega

/-- The duty would pass a limit in the direction of the error (R76). -/
def WindsUp (g : PhaserCfg) (raw e : Int) : Prop := (raw > g.dmax ∧ e > 0) ∨ (raw < g.dmin ∧ e < 0)

/-- The figures of the computation before its duty is clamped, and what is kept of them (R70, R71, R73, R74, R76). -/
structure Stages (p : Part) (i : Fin 4) (c : PhaserCtx) (e cand corr scaled raw : Int) : Prop where
  error : e = clampInt (-600) 600 ((c.tr : Int) - c.phase)
  candidate : cand = c.integ + (p.phaserCfg i).ki * e
  correction : corr = roundHalfAway ((p.phaserCfg i).kp * e + cand) 256
  scaling : scaled = roundHalfAway (corr * (p.compute i c).factor) 64
  sum : raw = ((p.compute i c).hold : Int) + scaled
  keptError : (p.compute i c).err = e
  duty : (p.compute i c).duty = (clampInt (p.phaserCfg i).dmin (p.phaserCfg i).dmax raw).toNat
  heldBack : WindsUp (p.phaserCfg i) raw e → (p.compute i c).integ = c.integ
  integrates : ¬WindsUp (p.phaserCfg i) raw e → (p.compute i c).integ = clampInteg (p.phaserCfg i).ilim cand

theorem compute_stages (p : Part) (i : Fin 4) (c : PhaserCtx) :
    ∃ e cand corr scaled raw, Stages p i c e cand corr scaled raw :=
  ⟨_, _, _, _, _, rfl, rfl, rfl, rfl, rfl, rfl, rfl, fun h => if_pos h, fun h => if_neg h⟩

/-- Settles O41: the stages are the computation's own figures (`compute_stages`), their roundings are nearest integers
(`roundHalfAway_nearest`) and their limits the model's clamps; a held back integrator keeps the bound it had. -/
theorem theControlComputationFollowsItsStages : Obligations.TheControlComputationFollowsItsStages := by
  unfold Obligations.TheControlComputationFollowsItsStages
  intro p i c g r nearest
  obtain ⟨e, cand, corr, scaled, raw, stages⟩ := compute_stages p i c
  refine ⟨e, cand, corr, scaled, raw, stages.error.trans (clampInt_eq _ _ _ (by omega)), stages.candidate, ?_, ?_,
    stages.sum, stages.keptError, rfl, fun ordered => ?_, stages.heldBack, fun free => ?_, fun bounded => ?_,
    bandFor_stale c, fun fresh => ?_⟩
  · rw [stages.correction]
    exact roundHalfAway_nearest _ (by omega)
  · rw [stages.scaling]
    exact roundHalfAway_nearest _ (by omega)
  · rw [stages.duty]
    exact clampInt_toNat _ _ _ ordered
  · exact (stages.integrates free).trans (clampInteg_eq _ _)
  · by_cases winds : WindsUp g raw e
    · rw [stages.heldBack winds]
      exact bounded
    · rw [stages.integrates winds]
      exact clampInteg_natAbs_le _ _
  · have band : r.band = oilBand p.xu.oilTemp := bandFor_fresh c fresh
    rw [band]
    exact ⟨oilBand_le _, oilBand_eq_zero _, oilBand_begins _, oilBand_ends _⟩

/-! ## Learning (R77 to R80) -/

/-- The settle test (R77). -/
theorem settled_iff (p : Part) (prevBand : Nat) (c : PhaserCtx) : p.settled prevBand c = true ↔
    c.state = .tracking ∧ c.tr = c.ta ∧ c.err.natAbs ≤ 3 ∧ p.isPresent .conditionsStale 14 = false ∧
      p.xu.haltLearn = false ∧ c.band = prevBand := by
  have within : c.err.natAbs ≤ 3 ↔ -3 ≤ c.err ∧ c.err ≤ 3 := by omega
  simp only [Part.settled, Part.stale, conditionsUnit, Bool.and_eq_true, decide_eq_true_eq, Bool.not_eq_true', within]
  constructor
  · rintro ⟨⟨⟨tracking, target, above, below, band⟩, fresh⟩, running⟩
    exact ⟨tracking, target, ⟨above, below⟩, fresh, running, band⟩
  · rintro ⟨tracking, target, ⟨above, below⟩, fresh, running, band⟩
    exact ⟨⟨⟨tracking, target, above, below, band⟩, fresh⟩, running⟩

section
variable {p : Part} (i : Fin 4) {prevBand : Nat} {c : PhaserCtx}

/-- An update that does not settle ends the count (R77). -/
theorem learn_unsettled (h : ¬p.settled prevBand c = true) :
    p.learn i prevBand c = { UpdateOut.plain { c with settle := 0 } with computed := true } :=
  if_pos (by simpa using h)

/-- A settled update short of the eighth counts (R77). -/
theorem learn_counts (h : p.settled prevBand c = true) (hc : c.settle < 7) :
    p.learn i prevBand c = { UpdateOut.plain { c with settle := c.settle + 1 } with computed := true } := by
  rw [Part.learn, if_neg (by simp [h]), if_pos (by omega)]
  rfl

/-- The eighth settled update moves the hold entry and gives the step back (R78, R79, R80). -/
theorem learn_steps (h : p.settled prevBand c = true) (hc : 7 ≤ c.settle) :
    p.learn i prevBand c = { UpdateOut.plain { c with
        hold := (learnedHold (p.phaserCfg i) c).toNat,
        integ := clampInteg (p.phaserCfg i).ilim
          (c.integ - roundHalfAway ((learnedHold (p.phaserCfg i) c - c.hold) * 256 * 64) c.factor),
        settle := 0 } with
      entry := some {
        value := (learnedHold (p.phaserCfg i) c).toNat,
        count := min ((vget p.holdTable (holdIndex i c.band)).count + 1) 255 },
      limited := decide (learnedHold (p.phaserCfg i) c - c.hold ≠ roundHalfAway ((c.duty : Int) - c.hold) 8),
      computed := true } := by
  rw [Part.learn, if_neg (by simp [h]), if_neg (by omega)]
  rfl

end

/-- The learned hold value is a figure within hold_min to hold_max, where they are in order (R78). -/
theorem learnedHold_clamped (g : PhaserCfg) (c : PhaserCtx) (h : g.holdMin ≤ g.holdMax) :
    ∃ v : Nat, learnedHold g c = v ∧ g.holdMin ≤ v ∧ v ≤ g.holdMax ∧
      (v : Int) = max (g.holdMin : Int) (min (g.holdMax : Int) (c.hold + roundHalfAway ((c.duty : Int) - c.hold) 8)) := by
  obtain ⟨clamped, low, high⟩ :=
    clampInt_toNat g.holdMin g.holdMax (c.hold + roundHalfAway ((c.duty : Int) - c.hold) 8) h
  refine ⟨_, ?_, low, high, clamped⟩
  rw [clamped]
  exact clampInt_eq _ _ _ (by omega)

/-- Settles O42: one equation of `Part.learn` for each outcome of the settle test (`settled_iff`), the learned value by
`learnedHold_clamped`. -/
theorem theEighthSettledUpdateLearns : Obligations.TheEighthSettledUpdateLearns := by
  unfold Obligations.TheEighthSettledUpdateLearns
  intro p i prevBand c g o test
  refine ⟨fun unsettled => ?_, fun settles early => ?_, fun settles eighth ordered => ?_⟩
  · have out : o = _ := learn_unsettled i (mt (settled_iff p prevBand c).mp unsettled)
    rw [out]
    exact ⟨rfl, rfl⟩
  · have out : o = _ := learn_counts i ((settled_iff p prevBand c).mpr settles) early
    rw [out]
    exact ⟨rfl, rfl⟩
  · obtain ⟨v, learned, low, high, clamped⟩ := learnedHold_clamped g c ordered
    have out : o = _ := learn_steps i ((settled_iff p prevBand c).mpr settles) eighth
    rw [learned, Int.toNat_natCast] at out
    refine ⟨v, _, _, low, high, rfl, clamped, rfl, ?_⟩
    rw [out]
    refine ⟨rfl, rfl, rfl, rfl, clampInteg_eq _ _, ?_⟩
    rw [decide_eq_true_iff]
    omega

end Sys2Proof.Machine.PhaseControl
end

section
/-! SUPPORT. The lines (O15): a set of bits is not empty exactly when some named bit is set, and what FLTSTAT gathers over
the units. -/

namespace Sys2Proof.Machine.FaultUnit

open PhaserSequencing

/-! ## Bits that a name stands for -/

/-- A row of bits is not 0 exactly when a named bit is set, where every bit has a name. -/
theorem ne_zero_iff_named {w : Nat} {α : Type} (bit : α → Nat) (named : ∀ n, n < w → ∃ a, bit a = n) (x : BitVec w) :
    x ≠ 0 ↔ ∃ a, x.getLsbD (bit a) = true := by
  constructor
  · intro nonzero
    refine Classical.byContradiction fun none => nonzero (BitVec.eq_of_getLsbD_eq fun n hn => ?_)
    obtain ⟨a, rfl⟩ := named n hn
    simpa using fun set => none ⟨a, set⟩
  · rintro ⟨a, set⟩ rfl
    simp at set

theorem code_surjective (n : Nat) (hn : n < 14) : ∃ k : Kind, k.code = n := by
  have listed : ∀ n : Fin 14, ∃ k ∈ allKinds, k.code = n := by decide
  obtain ⟨k, -, h⟩ := listed ⟨n, hn⟩
  exact ⟨k, h⟩

/-- The eight bits of ATTN are the eight causes (R151). -/
theorem bit_surjective (n : Nat) (hn : n < 8) : ∃ c : Cause, c.bit = n := by
  have listed : ∀ n : Fin 8, ∃ c ∈ [Cause.note, .fault, .verdict, .snapshot, .cycle, .sync, .retainRefused, .wakeAbort],
      c.bit = n := by decide
  obtain ⟨c, -, h⟩ := listed ⟨n, hn⟩
  exact ⟨c, h⟩

/-! ## What FLTSTAT gathers (R129) -/

@[simp] theorem has_or (s t : KindSet) (k : Kind) : KindSet.has (s ||| t) k = (s.has k || t.has k) := BitVec.getLsbD_or

@[simp] theorem has_and (s t : KindSet) (k : Kind) : KindSet.has (s &&& t) k = (s.has k && t.has k) := BitVec.getLsbD_and

theorem mem_allUnits (u : Unit15) : u ∈ allUnits := by revert u; decide

/-- The sets of some units, gathered onto a set. -/
theorem has_gathered (p : Part) (k : Kind) (l : List Unit15) (s : KindSet) :
    KindSet.has (l.foldl (fun s u => s ||| vget p.latched u ||| vget p.present u) s) k = true ↔
      s.has k = true ∨ ∃ u ∈ l, p.isLatched k u = true ∨ p.isPresent k u = true := by
  induction l generalizing s with
  | nil => simp
  | cons u l ih => simp [ih, Part.isLatched, Part.isPresent, or_assoc]

/-- A kind shows in FLTSTAT when it reports on LINE and some unit has it. -/
theorem fltstat_has_iff (p : Part) (k : Kind) : p.fltstat.has k = true ↔
    p.cfg.line.has k = true ∧ ∃ u, p.isLatched k u = true ∨ p.isPresent k u = true := by
  have empty : KindSet.has 0 k = false := BitVec.getLsbD_zero
  rw [Part.fltstat, has_and, Bool.and_eq_true, has_gathered, and_comm]
  simp only [empty, Bool.false_eq_true, false_or, mem_allUnits, true_and]

/-- Settles O15: each line is a row of bits that is not 0 (`ne_zero_iff_named`). -/
theorem theLinesShowTheirCauses : Obligations.TheLinesShowTheirCauses := by
  unfold Obligations.TheLinesShowTheirCauses
  intro p
  refine ⟨?_, fltstat_has_iff p, ?_⟩
  · simp only [Part.attnLine, decide_eq_true_iff, ne_zero_iff_named _ bit_surjective, BitVec.getLsbD_and,
      Bool.and_eq_true]
  · simp only [Part.flt, decide_eq_true_iff, ne_zero_iff_named _ code_surjective, KindSet.has]

end Sys2Proof.Machine.FaultUnit
end

section
/-! SUPPORT. The clear-faults mask (O54): its run over the named kinds and the units, the outputs it frees, and the owners
it releases. Each of the three is a fold whose steps touch an item of their own each. -/

namespace Sys2Proof.Machine.FaultUnit

open PhaserSequencing

/-! ## Folds over the units' items -/

/-- What every step keeps, a run of steps keeps. -/
theorem foldl_keeps {ι β : Type} (g : Part → β) (f : Part → ι → Part) (step : ∀ p a, g (f p a) = g p) (l : List ι)
    (p : Part) : g (l.foldl f p) = g p :=
  List.foldlRecOn (motive := fun q => g q = g p) l f rfl fun q kept a _ => (step q a).trans kept

/-- Where each step treats the item of its own index alone, by a rule that depends on nothing the steps change, a run of
steps treats every item of the run once. -/
theorem foldl_item {ι α β : Type} [DecidableEq ι] (fixed : Part → β) (item : Part → ι → α) (rule : β → ι → α → α)
    (f : Part → ι → Part) (keeps : ∀ p a, fixed (f p a) = fixed p) (own : ∀ p a, item (f p a) a = rule (fixed p) a (item p a))
    (other : ∀ p a b, b ≠ a → item (f p a) b = item p b) (l : List ι) (once : l.Nodup) (b : ι) (p : Part) :
    item (l.foldl f p) b = if b ∈ l then rule (fixed p) b (item p b) else item p b := by
  induction l generalizing p with
  | nil => simp
  | cons a l ih =>
    obtain ⟨fresh, once⟩ := List.nodup_cons.mp once
    rw [List.foldl_cons, ih once, keeps]
    by_cases h : b = a
    · subst h; simp [fresh, own]
    · simp [h, other _ _ _ h]

theorem mem_allOutputs (n : Fin 6) : n ∈ allOutputs := by revert n; decide

theorem mem_allSelectors (j : Fin 2) : j ∈ allSelectors := by revert j; decide

/-! ## What the mask never touches -/

/-- The settings, the demand, the Angle Unit, the match table and the attention causes. -/
def untouched (p : Part) : Option Configuration × Vector Demand 4 × AngleUnit × Vector MatchSlot 24 × BitVec 8 :=
  (p.config, p.demand, p.angle, p.slots, p.xu.attn)

theorem note_untouched (k : NoteKind) (u : Unit15) (d : Detail) (p : Part) : untouched (p.note k u d) = untouched p := by
  unfold Part.note
  split
  · rfl
  · split <;> rfl

theorem onOutputs_untouched {p q : Part} (h : OnOutputs p q) : untouched q = untouched p := by
  rw [h.frame]
  rfl

/-! ## The named kinds on the units (R131) -/

theorem clearOne_frame (k : Kind) (u : Unit15) (p : Part) :
    p.clearOne k u = { p with latched := (p.clearOne k u).latched, xu := (p.clearOne k u).xu } := by
  unfold Part.clearOne
  split
  · rfl
  split
  · rw [note_frame]
  · rfl

theorem clearOne_untouched (k : Kind) (u : Unit15) (p : Part) : untouched (p.clearOne k u) = untouched p := by
  unfold Part.clearOne
  split
  · rfl
  split
  · exact note_untouched _ _ _ _
  · rfl

theorem clearOne_isPresent (k l : Kind) (u w : Unit15) (p : Part) :
    (p.clearOne k u).isPresent l w = p.isPresent l w := by rw [clearOne_frame]; rfl

/-- One kind leaves the latched set of one unit, unless it is present there. -/
theorem clearOne_isLatched (k l : Kind) (u w : Unit15) (p : Part) : (p.clearOne k u).isLatched l w = true ↔
    p.isLatched l w = true ∧ ¬((l = k ∧ w = u) ∧ p.isPresent l w = false) := by
  unfold Part.clearOne
  by_cases latched : p.isLatched k u = true
  · by_cases present : p.isPresent k u = true
    · have kept : (p.note .clearKept u (detailOf k.code)).isLatched l w = p.isLatched l w := by simp [Part.isLatched]
      simp only [latched, present, Bool.not_true, Bool.false_eq_true, if_false, if_true, kept, iff_self_and]
      rintro - ⟨⟨rfl, rfl⟩, absent⟩
      rw [present] at absent
      cases absent
    · have dropped : (p.unlatch k u).isLatched l w = (p.isLatched l w && !decide (l = k ∧ w = u)) :=
        has_vset_drop p.latched k l u w
      simp only [latched, present, Bool.not_true, Bool.false_eq_true, if_false, dropped, Bool.and_eq_true,
        Bool.not_eq_true', decide_eq_false_iff_not]
      refine and_congr_right fun _ => not_congr (iff_self_and.mpr ?_)
      rintro ⟨rfl, rfl⟩
      simpa using present
  · rw [if_pos (by simpa using latched), iff_self_and]
    rintro on ⟨⟨rfl, rfl⟩, -⟩
    exact latched on

/-- The kinds a mask names, each on every unit, in the order in which the mask is taken. -/
def namedPairs (mask : Word) : List (Kind × Unit15) :=
  (allKinds.filter fun k => bitOf mask k.code).flatMap fun k => allUnits.map (Prod.mk k)

/-- One kind on one unit. -/
def clearPair (p : Part) (a : Kind × Unit15) : Part := p.clearOne a.1 a.2

/-- The mask has run over its kinds (R131). -/
def clearedKinds (mask : Word) (p : Part) : Part := (namedPairs mask).foldl clearPair p

theorem mem_namedPairs (mask : Word) (k : Kind) (u : Unit15) :
    (k, u) ∈ namedPairs mask ↔ mask.getLsbD k.code = true := by
  simp [namedPairs, bitOf, mem_allKinds, mem_allUnits]

/-- The kinds come in the order of Table 7-2. -/
theorem namedPairs_ordered (mask : Word) : (namedPairs mask).Pairwise fun a b => a.1.code ≤ b.1.code := by
  have kinds : allKinds.Pairwise fun k l => k.code ≤ l.code := by decide
  refine List.pairwise_flatMap.mpr ⟨fun k _ => ?_, (kinds.filter _).imp fun {k l} h => ?_⟩
  · exact List.pairwise_map.mpr (List.pairwise_of_forall fun _ _ => Nat.le_refl _)
  · simp only [List.mem_map]
    rintro _ ⟨u, -, rfl⟩ _ ⟨w, -, rfl⟩
    exact h

section
variable (l : List (Kind × Unit15)) (p : Part)

theorem clearPairs_present : (l.foldl clearPair p).present = p.present :=
  foldl_keeps Part.present clearPair (fun p a => by rw [clearPair, clearOne_frame]) l p

/-- A run over kinds on units takes those that are not present out of the latched sets. -/
theorem clearPairs_isLatched (k : Kind) (u : Unit15) : (l.foldl clearPair p).isLatched k u = true ↔
    p.isLatched k u = true ∧ ¬((k, u) ∈ l ∧ p.isPresent k u = false) := by
  induction l generalizing p with
  | nil => simp
  | cons a l ih =>
    rw [List.foldl_cons, ih, clearPair, clearOne_isLatched, clearOne_isPresent, List.mem_cons, Prod.ext_iff, and_assoc,
      ← not_or, ← or_and_right]

end

/-! ## What is present is noted (R131, R146) -/

theorem findFree_some {notes : Vector NoteSlot 16} {m : Fin 16} (h : findFree notes = some m) :
    (vget notes m).filled = false := by
  simpa using List.find?_some h

/-- A note stands through a store into a slot that holds no note of its kind on its unit. -/
theorem putNote_keeps_noted {k : NoteKind} {u : Unit15} {d : Detail} {m : Fin 16} {n : NoteSlot} {p : Part}
    (filled : n.filled = true) (elsewhere : (vget p.xu.notes m).filled = true → (vget p.xu.notes m).kind = k →
      (vget p.xu.notes m).unit ≠ u) (noted : p.xu.Noted k u d) : (p.putNote m n).xu.Noted k u d := by
  rcases noted with ⟨withheld, full⟩ | ⟨at_, stands, kind, unit, detail⟩
  · refine .inl ⟨withheld, fun l => ?_⟩
    by_cases hl : l = m
    · subst hl; simpa [Part.putNote, Part.handOver] using filled
    · simpa [Part.putNote, Part.handOver, vget_vset_other _ _ _ _ hl] using full l
  · have away : at_ ≠ m := fun h => elsewhere (h ▸ stands) (h ▸ kind) (h ▸ unit)
    exact .inr ⟨at_, by simp [Part.putNote, Part.handOver, vget_vset_other _ _ _ _ away, stands, kind, unit, detail]⟩

/-- A note stands through every note of another kind or on another unit. -/
theorem note_keeps_noted {k k' : NoteKind} {u u' : Unit15} {d : Detail} (d' : Detail) {p : Part}
    (differs : ¬(k' = k ∧ u' = u)) (noted : p.xu.Noted k u d) : (p.note k' u' d').xu.Noted k u d := by
  unfold Part.note
  split
  · next m h =>
    obtain ⟨filled, kind, unit⟩ := findNote_some h
    exact putNote_keeps_noted filled (fun _ hk hu => differs ⟨kind.symm.trans hk, unit.symm.trans hu⟩) noted
  split
  · next m h =>
    exact putNote_keeps_noted (p := { p with xu.fillCount := p.xu.fillCount + 1 }) rfl
      (fun filled => absurd ((findFree_some h).symm.trans filled) (by simp)) noted
  · next h => exact .inl ⟨rfl, findFree_none h⟩

/-- A kind that is latched and present makes its CLEAR_KEPT note. -/
theorem clearOne_noted {k : Kind} {u : Unit15} {p : Part} (latched : p.isLatched k u = true)
    (present : p.isPresent k u = true) : (p.clearOne k u).xu.Noted .clearKept u (detailOf k.code) := by
  rw [Part.clearOne, if_neg (by simp [latched]), if_pos present]
  exact note_noted _ _ _ _

/-- The CLEAR_KEPT note of a unit stands while no other kind is kept on that unit. -/
theorem clearOne_keeps_noted {k l : Kind} {u w : Unit15} {p : Part}
    (alone : w = u → l ≠ k → p.isLatched l w = true → p.isPresent l w = false)
    (noted : p.xu.Noted .clearKept u (detailOf k.code)) :
    (p.clearOne l w).xu.Noted .clearKept u (detailOf k.code) := by
  unfold Part.clearOne
  split
  · exact noted
  next latched =>
  split
  · next present =>
    by_cases unit : w = u
    · have same : l = k := by
        refine Classical.byContradiction fun other => ?_
        rw [alone unit other (by simpa using latched)] at present
        cases present
      rw [unit, same]
      exact note_noted _ _ _ _
    · exact note_keeps_noted _ (fun h => unit h.2) noted
  · exact noted

theorem clearPairs_keep_noted {k : Kind} {u : Unit15} (l : List (Kind × Unit15)) (p : Part)
    (alone : ∀ a ∈ l, a.2 = u → a.1 ≠ k → p.isLatched a.1 a.2 = true → p.isPresent a.1 a.2 = false)
    (noted : p.xu.Noted .clearKept u (detailOf k.code)) :
    (l.foldl clearPair p).xu.Noted .clearKept u (detailOf k.code) := by
  induction l generalizing p with
  | nil => exact noted
  | cons a l ih =>
    refine ih _ (fun b mem unit other latched => ?_)
      (clearOne_keeps_noted (alone a List.mem_cons_self) noted)
    rw [clearPair, clearOne_isPresent]
    exact alone b (List.mem_cons_of_mem a mem) unit other ((clearOne_isLatched _ _ _ _ _).mp latched).1

/-- The last kind of the run that is kept on a unit is the detail of the unit's note. -/
theorem clearedKinds_noted (mask : Word) {k : Kind} {u : Unit15} {p : Part} (named : mask.getLsbD k.code = true)
    (latched : p.isLatched k u = true) (present : p.isPresent k u = true)
    (last : ∀ l : Kind, k.code < l.code → mask.getLsbD l.code = true → p.isLatched l u = true →
      p.isPresent l u = false) :
    (clearedKinds mask p).xu.Noted .clearKept u (detailOf k.code) := by
  obtain ⟨before, after, split⟩ := List.append_of_mem ((mem_namedPairs mask k u).mpr named)
  have later : ∀ a ∈ after, k.code ≤ a.1.code := by
    have ordered := namedPairs_ordered mask
    rw [split] at ordered
    exact (List.pairwise_cons.mp (List.pairwise_append.mp ordered).2.1).1
  have reached : (before.foldl clearPair p).isLatched k u = true :=
    (clearPairs_isLatched before p k u).mpr ⟨latched, fun h => by simp [present] at h⟩
  have presentThen : ∀ l w, (before.foldl clearPair p).isPresent l w = p.isPresent l w := fun l w => by
    rw [Part.isPresent, clearPairs_present]; rfl
  rw [clearedKinds, split, List.foldl_append, List.foldl_cons]
  refine clearPairs_keep_noted after _ ?_ (clearOne_noted reached ((presentThen k u).trans present))
  rintro ⟨l, w⟩ mem rfl other still
  have beyond : k.code < l.code := Nat.lt_of_le_of_ne (later _ mem) fun same => other (code_inj.mp same.symm)
  have namedLater : mask.getLsbD l.code = true := (mem_namedPairs mask l w).mp (by simp [split, mem])
  rw [clearPair, clearOne_isPresent, presentThen]
  exact last l beyond namedLater
    ((clearPairs_isLatched _ _ _ _).mp ((clearOne_isLatched _ _ _ _ _).mp still).1).1

/-! ## The summary (R122) -/

/-- A summary record with the sets as they stand waits to be written. -/
def Summarised (p : Part) : Prop := ∃ r ∈ p.xu.records, r.kind = .summary ∧ r.done = 0 ∧ r.words = p.summaryWords

theorem writeSummary_summarised (p : Part) : Summarised p.writeSummary :=
  ⟨_, List.mem_append_right _ (List.mem_singleton_self _), rfl, rfl, rfl⟩

/-- Further records, with the sets unchanged, leave the summary true. -/
theorem Summarised.of_same_sets {p q : Part} (h : Summarised p) (latched : q.latched = p.latched)
    (present : q.present = p.present) (records : ∃ rs, q.xu.records = p.xu.records ++ rs) : Summarised q := by
  obtain ⟨r, mem, kind, done, words⟩ := h
  obtain ⟨rs, e⟩ := records
  refine ⟨r, e ▸ List.mem_append_left rs mem, kind, done, ?_⟩
  simpa only [Part.summaryWords, latched, present] using words

theorem judgeReleases_summarised {p : Part} (h : Summarised p) : Summarised p.judgeReleases :=
  h.of_same_sets (judgeReleases_judged p).latched (judgeReleases_judged p).present p.judgeReleases_outward.records

/-- A cease report that changes a set hands over the summary after it. -/
theorem cease_summarised (k : Kind) (u : Unit15) {p : Part} (h : Summarised p) : Summarised (p.cease k u) := by
  rcases cease_cases k u p with ⟨_, e⟩ | ⟨_, _, e⟩ | ⟨_, _, e⟩
  · rwa [e]
  · rw [e]; exact writeSummary_summarised _
  · rw [e]; exact judgeReleases_summarised (writeSummary_summarised _)

/-! ## The outputs (R114) -/

theorem putChannel_channels (n : Fin 6) (c : Channel) (p : Part) :
    (p.putChannel n c).channels = vset p.channels n c := by
  unfold Part.putChannel
  dsimp only
  split <;> rfl

theorem putChannel_summarised (n : Fin 6) (c : Channel) {p : Part} (h : Summarised p) : Summarised (p.putChannel n c) := by
  refine h.of_same_sets (putChannel_onOutputs n c p).latched ?_ (p.putChannel_outward n c).records
  unfold Part.putChannel
  dsimp only
  split <;> rfl

theorem channelOff_summarised (n : Fin 6) {p : Part} (h : Summarised p) : Summarised (p.channelOff n) := by
  unfold Part.channelOff
  dsimp only
  split
  · exact h
  split
  · exact cease_summarised _ _ (putChannel_summarised _ _ h)
  · exact putChannel_summarised _ _ h

/-- What applying a request does to its channel, by what it comes to: nothing, OFF, PEAK or a PWM period. -/
theorem applyRequest_cases (n : Fin 6) (p : Part) :
    p.applyRequest n = p ∨ p.applyRequest n = p.channelOff n ∨ (∃ peak, p.applyRequest n = p.enterPeak n peak) ∨
      ∃ d, p.applyRequest n = p.startPeriod n d := by
  unfold Part.applyRequest
  dsimp only
  split
  · exact .inr (.inl rfl)
  split
  · exact .inl rfl
  split
  · exact .inr (.inl rfl)
  · exact .inr (.inr (.inl ⟨_, rfl⟩))
  · split
    · exact .inr (.inl rfl)
    · split
      · exact .inl rfl
      · exact .inr (.inr (.inr ⟨_, rfl⟩))

theorem applyRequest_summarised (n : Fin 6) {p : Part} (h : Summarised p) : Summarised (p.applyRequest n) := by
  rcases applyRequest_cases n p with e | e | ⟨_, e⟩ | ⟨_, e⟩ <;> rw [e]
  · exact h
  · exact channelOff_summarised n h
  · exact putChannel_summarised _ _ h
  · exact putChannel_summarised _ _ h

/-- A channel stored with its tripped flag as it was leaves every output's. -/
theorem putChannel_tripped (n l : Fin 6) (c : Channel) (p : Part) (h : c.tripped = (vget p.channels n).tripped) :
    (vget (p.putChannel n c).channels l).tripped = (vget p.channels l).tripped := by
  rw [putChannel_channels, vget_vset]
  split
  · next same => rw [same, h]
  · rfl

/-- Applying a request leaves every output's tripped flag. -/
theorem applyRequest_tripped (n l : Fin 6) (p : Part) :
    (vget (p.applyRequest n).channels l).tripped = (vget p.channels l).tripped := by
  rcases applyRequest_cases n p with e | e | ⟨_, e⟩ | ⟨_, e⟩ <;> rw [e]
  · unfold Part.channelOff
    dsimp only
    split
    · rfl
    split
    · rw [cease_openLoad_channels]; exact putChannel_tripped n l _ p rfl
    · exact putChannel_tripped n l _ p rfl
  · exact putChannel_tripped n l _ p rfl
  · exact putChannel_tripped n l _ p rfl

theorem untrip_onOutputs (n : Fin 6) (p : Part) : OnOutputs p (p.untrip n) := by
  unfold Part.untrip
  dsimp only
  split
  · exact (putChannel_onOutputs n _ p).trans (applyRequest_onOutputs n _)
  · exact .refl p

theorem untrip_summarised (n : Fin 6) {p : Part} (h : Summarised p) : Summarised (p.untrip n) := by
  unfold Part.untrip
  dsimp only
  split
  · exact applyRequest_summarised n (putChannel_summarised _ _ h)
  · exact h

theorem untrip_request (n l : Fin 6) (p : Part) :
    (vget (p.untrip n).channels l).request = (vget p.channels l).request := by
  unfold Part.untrip
  dsimp only
  split
  · rw [applyRequest_request, putChannel_request _ _ _ _ (by rfl)]
  · rfl

/-- An output is free once no OVER_CURRENT is latched on it. -/
theorem untrip_tripped_own (n : Fin 6) (p : Part) : (vget (p.untrip n).channels n).tripped =
    ((vget p.channels n).tripped && p.isLatched .overCurrent (outputUnit n)) := by
  unfold Part.untrip
  dsimp only
  split
  · next freed => rw [applyRequest_tripped, putChannel_channels]; simp [freed.2]
  · next kept =>
    rw [not_and, Bool.not_eq_false] at kept
    cases tripped : (vget p.channels n).tripped
    · rfl
    · simp [kept tripped]

theorem untrip_tripped_other (n l : Fin 6) (p : Part) (h : l ≠ n) :
    (vget (p.untrip n).channels l).tripped = (vget p.channels l).tripped := by
  unfold Part.untrip
  dsimp only
  split
  · rw [applyRequest_tripped, putChannel_channels, vget_vset_other _ _ _ _ h]
  · rfl

/-- The outputs have been freed (R114). -/
def freedOutputs (p : Part) : Part := allOutputs.foldl (fun p n => p.untrip n) p

theorem freedOutputs_onOutputs (p : Part) : OnOutputs p (freedOutputs p) :=
  List.foldlRecOn (motive := OnOutputs p) _ _ (.refl p) fun q h n _ => h.trans (untrip_onOutputs n q)

theorem freedOutputs_summarised {p : Part} (h : Summarised p) : Summarised (freedOutputs p) :=
  List.foldlRecOn (motive := Summarised) _ _ h fun _ h n _ => untrip_summarised n h

theorem freedOutputs_request (n : Fin 6) (p : Part) :
    (vget (freedOutputs p).channels n).request = (vget p.channels n).request :=
  foldl_keeps (fun p => (vget p.channels n).request) _ (fun p l => untrip_request l n p) allOutputs p

theorem freedOutputs_tripped (n : Fin 6) (p : Part) : (vget (freedOutputs p).channels n).tripped =
    ((vget p.channels n).tripped && p.isLatched .overCurrent (outputUnit n)) := by
  have run := foldl_item Part.latched (fun p n => (vget p.channels n).tripped)
    (fun latched n tripped => tripped && (vget latched (outputUnit n)).has .overCurrent)
    (fun p n => p.untrip n) (fun p n => (untrip_onOutputs n p).latched) (fun p n => untrip_tripped_own n p)
    (fun p n l => untrip_tripped_other n l p) allOutputs (by decide) n p
  exact run.trans (if_pos (mem_allOutputs n))

/-! ## What keeps an owner faulted (R132) -/

theorem latchedWith_iff (p : Part) (u : Unit15) (r : Reaction → Bool) : p.latchedWith u r = true ↔
    ∃ k, p.isLatched k u = true ∧ ∃ x, p.cfg.reaction k = some x ∧ r x = true := by
  simp only [Part.latchedWith, List.any_eq_true, mem_allKinds, true_and, Bool.and_eq_true]
  refine exists_congr fun k => and_congr_right fun _ => ?_
  cases p.cfg.reaction k <;> simp

theorem phaserKept_iff (p : Part) (i : Fin 4) : p.phaserKept i = true ↔ ∃ k, p.cfg.reaction k = some .force ∧
    (p.isLatched k (phaserUnit i) = true ∨ p.isLatched k (outputUnit (phaserOutput i)) = true) := by
  simp only [Part.phaserKept, Bool.or_eq_true, latchedWith_iff, decide_eq_true_iff, exists_eq_right, ← exists_or]
  exact exists_congr fun k => by rw [← or_and_right, and_comm]

theorem selectorKept_iff (p : Part) (j : Fin 2) : p.selectorKept j = true ↔
    p.isLatched .selectorUnconfirmed (selectorUnit j) = true ∨
      ∃ k, (p.cfg.reaction k = some .force ∨ p.cfg.reaction k = some .park) ∧
        p.isLatched k (outputUnit (selectorOutput j)) = true := by
  have reacts : ∀ r : Option Reaction, (∃ x, r = some x ∧ decide (x ≠ .proceed) = true) ↔
      r = some .force ∨ r = some .park := by
    rintro (_ | _ | _ | _) <;> simp
  simp only [Part.selectorKept, Bool.or_eq_true, latchedWith_iff, reacts]
  exact or_congr_right (exists_congr fun k => and_comm)

/-! ## The releases (R132, R64, R104) -/

theorem judgePhaser_frame (i : Fin 4) (p : Part) : p.judgePhaser i =
    { p with phasers := (p.judgePhaser i).phasers, cams := (p.judgePhaser i).cams,
             xu.records := (p.judgePhaser i).xu.records } := by
  unfold Part.judgePhaser
  split <;> rfl

theorem judgeSelector_frame (j : Fin 2) (p : Part) : p.judgeSelector j =
    { p with selectors := (p.judgeSelector j).selectors, channels := (p.judgeSelector j).channels,
             xu.records := (p.judgeSelector j).xu.records } := by
  unfold Part.judgeSelector
  split <;> rfl

/-- What the judgement of each owner keeps, the judgement of all keeps. -/
theorem judgeReleases_keeps {β : Type} (g : Part → β) (phaser : ∀ (p : Part) i, g (p.judgePhaser i) = g p)
    (selector : ∀ (p : Part) j, g (p.judgeSelector j) = g p) (p : Part) : g p.judgeReleases = g p :=
  (foldl_keeps g _ selector allSelectors _).trans (foldl_keeps g _ phaser allPhasers p)

theorem judgeReleases_untouched (p : Part) : untouched p.judgeReleases = untouched p :=
  judgeReleases_keeps untouched (fun p i => by rw [judgePhaser_frame]; rfl) (fun p j => by rw [judgeSelector_frame]; rfl) p

theorem judgeReleases_notes (p : Part) : p.judgeReleases.xu.notes = p.xu.notes :=
  judgeReleases_keeps (·.xu.notes) (fun p i => by rw [judgePhaser_frame]) (fun p j => by rw [judgeSelector_frame]) p

theorem judgeReleases_notesWithheld (p : Part) : p.judgeReleases.xu.notesWithheld = p.xu.notesWithheld :=
  judgeReleases_keeps (·.xu.notesWithheld) (fun p i => by rw [judgePhaser_frame])
    (fun p j => by rw [judgeSelector_frame]) p

theorem judgeReleases_tripped (n : Fin 6) (p : Part) :
    (vget p.judgeReleases.channels n).tripped = (vget p.channels n).tripped := by
  have selector : ∀ (p : Part) (j : Fin 2),
      (vget (p.judgeSelector j).channels n).tripped = (vget p.channels n).tripped := by
    intro p j
    unfold Part.judgeSelector
    split
    · exact (congrArg Channel.tripped (vget_vset _ _ _ _)).trans (by split <;> simp_all)
    · rfl
  exact judgeReleases_keeps (fun p => (vget p.channels n).tripped) (fun p i => by rw [judgePhaser_frame]) selector p

/-- The judgement of one phaser's context, by what keeps phasers faulted. -/
def judgedPhaser (kept : Fin 4 → Bool) (i : Fin 4) (c : PhaserCtx) : PhaserCtx :=
  if c.state = .faulted ∧ kept i = false then unfaulted c else c

theorem judgePhaser_own (p : Part) (i : Fin 4) :
    vget (p.judgePhaser i).phasers i = judgedPhaser p.phaserKept i (vget p.phasers i) := by
  unfold Part.judgePhaser judgedPhaser
  split
  · rw [releasePhaser_phasers, vget_vset_same]
  · rfl

theorem judgePhaser_other (p : Part) (i l : Fin 4) (h : l ≠ i) :
    vget (p.judgePhaser i).phasers l = vget p.phasers l := by
  unfold Part.judgePhaser
  split
  · rw [releasePhaser_phasers, vget_vset_other _ _ _ _ h]
  · rfl

/-- Each phaser is judged once. -/
theorem judgeReleases_phasers (i : Fin 4) (p : Part) :
    vget p.judgeReleases.phasers i = judgedPhaser p.phaserKept i (vget p.phasers i) := by
  have kept : ∀ (p : Part) (i : Fin 4), (p.judgePhaser i).phaserKept = p.phaserKept := fun p i =>
    funext (phaserKept_congr (judgePhaser_judged i p).latched (judgePhaser_judged i p).config)
  have run := foldl_item Part.phaserKept (fun p i => vget p.phasers i) judgedPhaser (fun p i => p.judgePhaser i) kept
    judgePhaser_own judgePhaser_other allPhasers (by decide) i p
  have selectors := foldl_keeps Part.phasers (fun p j => p.judgeSelector j)
    (fun p j => by rw [judgeSelector_frame]) allSelectors (allPhasers.foldl (fun p i => p.judgePhaser i) p)
  exact (congrArg (vget · i) selectors).trans (run.trans (if_pos (allPhasers_mem i)))

/-- A selector's context with the request its output holds. -/
def selectorItem (p : Part) (j : Fin 2) : SelectorCtx × Request :=
  (vget p.selectors j, (vget p.channels (selectorOutput j)).request)

/-- The judgement of one selector's context, by what keeps selectors faulted. -/
def judgedSelector (kept : Fin 2 → Bool) (j : Fin 2) (c : SelectorCtx × Request) : SelectorCtx × Request :=
  if c.1.state = .faulted ∧ kept j = false then ({ c.1 with state := .low }, .release) else c

theorem selectorKept_congr {p q : Part} (hl : q.latched = p.latched) (hc : q.config = p.config) (j : Fin 2) :
    q.selectorKept j = p.selectorKept j := by
  simp only [Part.selectorKept, Part.latchedWith, Part.isLatched, Part.cfg, hl, hc]

theorem releaseSelector_item (p : Part) (j l : Fin 2) : selectorItem (p.releaseSelector j) l =
    if l = j then ({ vget p.selectors j with state := .low }, .release) else selectorItem p l := by
  split
  · next h => subst h; simp [selectorItem, Part.releaseSelector, Part.writeSelector]
  · next h =>
    have outputs : selectorOutput l ≠ selectorOutput j := by revert j l; decide
    simp [selectorItem, Part.releaseSelector, Part.writeSelector, vget_vset_other _ _ _ _ h,
      vget_vset_other _ _ _ _ outputs]

theorem judgeSelector_own (p : Part) (j : Fin 2) :
    selectorItem (p.judgeSelector j) j = judgedSelector p.selectorKept j (selectorItem p j) := by
  unfold Part.judgeSelector
  split
  · next h => exact ((releaseSelector_item p j j).trans (if_pos rfl)).trans (if_pos h).symm
  · next h => exact (if_neg h).symm

theorem judgeSelector_other (p : Part) (j l : Fin 2) (h : l ≠ j) :
    selectorItem (p.judgeSelector j) l = selectorItem p l := by
  unfold Part.judgeSelector
  split
  · rw [releaseSelector_item, if_neg h]
  · rfl

/-- Each selector is judged once, with the request of its output. -/
theorem judgeReleases_selectors (j : Fin 2) (p : Part) :
    selectorItem p.judgeReleases j = judgedSelector p.selectorKept j (selectorItem p j) := by
  have kept : ∀ (p : Part) (j : Fin 2), (p.judgeSelector j).selectorKept = p.selectorKept := fun p j =>
    funext (selectorKept_congr (judgeSelector_judged j p).latched (judgeSelector_judged j p).config)
  have run := foldl_item Part.selectorKept selectorItem judgedSelector (fun p j => p.judgeSelector j) kept
    judgeSelector_own judgeSelector_other allSelectors (by decide) j
    (allPhasers.foldl (fun p i => p.judgePhaser i) p)
  have before := foldl_keeps (fun p => judgedSelector p.selectorKept j (selectorItem p j))
    (fun p i => p.judgePhaser i) (fun p i => by
      rw [funext (selectorKept_congr (judgePhaser_judged i p).latched (judgePhaser_judged i p).config),
        judgePhaser_frame]
      rfl) allPhasers p
  exact run.trans ((if_pos (mem_allSelectors j)).trans before)

/-! ## The mask as a whole -/

section
variable (mask : Word) (p : Part)

theorem clearedKinds_units : (clearedKinds mask p).phasers = p.phasers ∧ (clearedKinds mask p).selectors = p.selectors ∧
    (clearedKinds mask p).channels = p.channels := by
  have kept := foldl_keeps (fun p => (p.phasers, p.selectors, p.channels)) clearPair
    (fun p a => by rw [clearPair, clearOne_frame]) (namedPairs mask) p
  simpa only [clearedKinds, Prod.mk.injEq] using kept

/-- The outputs freed after the kinds are cleared and the summary handed over. -/
def clearedOutputs : Part := freedOutputs (clearedKinds mask p).writeSummary

/-- The mask in three parts: the kinds, the outputs with the summary before them, and the owners. -/
theorem clearFaults_judged : p.clearFaults mask = (clearedOutputs mask p).judgeReleases := by
  simp only [clearedOutputs, clearedKinds, namedPairs, List.foldl_flatMap, List.foldl_map, List.foldl_filter]
  rfl

theorem clearedOutputs_onOutputs : OnOutputs (clearedKinds mask p).writeSummary (clearedOutputs mask p) :=
  freedOutputs_onOutputs _

theorem clearFaults_latched : (p.clearFaults mask).latched = (clearedKinds mask p).latched := by
  rw [clearFaults_judged, (judgeReleases_judged _).latched, (clearedOutputs_onOutputs mask p).latched]
  rfl

theorem clearFaults_isLatched (k : Kind) (u : Unit15) : (p.clearFaults mask).isLatched k u = true ↔
    p.isLatched k u = true ∧ ¬(mask.getLsbD k.code = true ∧ p.isPresent k u = false) := by
  rw [Part.isLatched, clearFaults_latched, ← mem_namedPairs mask k u]
  exact clearPairs_isLatched _ _ _ _

/-- What stands in the note list once the kinds are cleared stands there at the end. -/
theorem clearFaults_noted {k : NoteKind} {u : Unit15} {d : Detail} (h : (clearedKinds mask p).xu.Noted k u d) :
    (p.clearFaults mask).xu.Noted k u d := by
  have outputs := clearedOutputs_onOutputs mask p
  unfold Exchange.Noted
  rw [clearFaults_judged, judgeReleases_notes, judgeReleases_notesWithheld, outputs.notes, outputs.notesWithheld]
  exact h

theorem clearFaults_untouched : untouched (p.clearFaults mask) = untouched p := by
  rw [clearFaults_judged, judgeReleases_untouched, onOutputs_untouched (clearedOutputs_onOutputs mask p)]
  exact foldl_keeps untouched clearPair (fun p a => clearOne_untouched _ _ p) (namedPairs mask) p

theorem clearFaults_tripped (n : Fin 6) : (vget (p.clearFaults mask).channels n).tripped =
    ((vget p.channels n).tripped && (p.clearFaults mask).isLatched .overCurrent (outputUnit n)) := by
  rw [Part.isLatched, clearFaults_latched, clearFaults_judged, judgeReleases_tripped, clearedOutputs,
    freedOutputs_tripped, ← (clearedKinds_units mask p).2.2]
  rfl

theorem clearFaults_phasers (i : Fin 4) : vget (p.clearFaults mask).phasers i =
    judgedPhaser (p.clearFaults mask).phaserKept i (vget p.phasers i) := by
  have judged := judgeReleases_judged (clearedOutputs mask p)
  rw [clearFaults_judged, judgeReleases_phasers, (clearedOutputs_onOutputs mask p).phasers,
    ← funext (phaserKept_congr judged.latched judged.config), ← (clearedKinds_units mask p).1]
  rfl

theorem clearFaults_selectors (j : Fin 2) : selectorItem (p.clearFaults mask) j =
    judgedSelector (p.clearFaults mask).selectorKept j (selectorItem p j) := by
  obtain ⟨-, selectors, channels⟩ := clearedKinds_units mask p
  have judged := judgeReleases_judged (clearedOutputs mask p)
  have item : selectorItem (clearedOutputs mask p) j = selectorItem p j := by
    rw [selectorItem, (clearedOutputs_onOutputs mask p).selectors, clearedOutputs, freedOutputs_request, selectorItem,
      ← selectors, ← channels]
    rfl
  rw [clearFaults_judged, judgeReleases_selectors, item, ← funext (selectorKept_congr judged.latched judged.config)]

theorem clearFaults_summarised : Summarised (p.clearFaults mask) := by
  rw [clearFaults_judged]
  exact judgeReleases_summarised (freedOutputs_summarised (writeSummary_summarised _))

theorem clearFaults_keeps : (p.clearFaults mask).config = p.config ∧ (p.clearFaults mask).demand = p.demand ∧
    (p.clearFaults mask).angle = p.angle ∧ (p.clearFaults mask).slots = p.slots ∧
    (p.clearFaults mask).xu.attn = p.xu.attn := by
  simpa only [untouched, Prod.mk.injEq] using clearFaults_untouched mask p

theorem clearFaults_cfg : (p.clearFaults mask).cfg = p.cfg := by
  rw [Part.cfg, (clearFaults_keeps mask p).1]
  rfl

end

/-- Settles O54: the mask runs over its kinds (`clearFaults_isLatched`, `clearedKinds_noted`), frees the outputs
(`clearFaults_tripped`) and releases the owners that nothing keeps (`clearFaults_phasers`, `clearFaults_selectors`). -/
theorem theMaskClearsFaultsAndReleasesTheirOwners : Obligations.TheMaskClearsFaultsAndReleasesTheirOwners := by
  unfold Obligations.TheMaskClearsFaultsAndReleasesTheirOwners
  intro p mask
  dsimp only
  obtain ⟨config, demand, angle, slots, attn⟩ := clearFaults_keeps mask p
  refine ⟨clearFaults_isLatched mask p, fun k u on latched present last => ?_, clearFaults_tripped mask p, fun i => ?_,
    fun j => ?_, clearFaults_summarised mask p, attn, config, demand, angle, slots⟩
  · have detail : detailOf k.code = { w9 := BitVec.ofNat 16 k.code, w10 := 0 } := by cases k <;> rfl
    rw [← detail]
    exact clearFaults_noted mask p (clearedKinds_noted mask on latched present last)
  · rw [clearFaults_phasers, ← clearFaults_cfg mask p, ← phaserKept_iff, Bool.not_eq_true]
    refine ⟨fun faulted free => if_pos ⟨faulted, free⟩, fun stays => if_neg ?_⟩
    rintro ⟨faulted, free⟩
    exact stays.elim (· faulted) (by simp [free])
  · have item := clearFaults_selectors mask p j
    rw [← clearFaults_cfg mask p, ← selectorKept_iff, Bool.not_eq_true]
    refine ⟨fun faulted free => Prod.mk.inj (item.trans (if_pos ⟨faulted, free⟩)), fun stays =>
      Prod.mk.inj (item.trans (if_neg ?_))⟩
    rintro ⟨faulted, free⟩
    exact stays.elim (· faulted) (by simp [free])

end Sys2Proof.Machine.FaultUnit
end
